-- ==== Sys2Proof/Word.lean ====
section
/-!
DEFINITION. The word types of the Wimbolt 7310: what the specification treats as bits.
-/

namespace Sys2Proof

/-- One byte of a payload, a link message or the configuration image. -/
abbrev Byte := BitVec 8

/-- Guard time: a millisecond counter of 32 bits that wraps (R1). -/
abbrev Time := BitVec 32

/-- A claim id: home domain in the upper 4 bits, sequence value in the lower 12 (R18). -/
abbrev ClaimId := BitVec 16

/-- A domain set: bit d stands for domain d (R18); bits 12 to 15 of the field are ignored. -/
abbrev DomainSet := BitVec 12

/-- A class set: bit c stands for class c (R18); bits 10 to 15 of the field are ignored. -/
abbrev ClassSet := BitVec 10

/-- A domain number, 0 to 11 (00_scope.md, Terms). -/
abbrev Domain := Fin 12

/-- A tester, numbered 0 to 13: the tester of station address 0xF0 + n (R45). -/
abbrev Tester := Fin 14

/-- The claim id value that means "no claim" (R18). -/
abbrev noClaim : ClaimId := 0xFFFF#16

end Sys2Proof
end

