-- ==== Sys2Proof/Syntax.lean ====
section
/-!
DEFINITION. The commands of the guard: one constructor for each row of spec/opcode_table.json, with
the operands of log entry 4.
-/

namespace Sys2Proof

/-- The formats of a frame completed on the backbone (R8, R9). -/
inductive FrameFormat where
  /-- A data frame with a base identifier: not a hold frame (R8). -/
  | base
  /-- A remote frame: not a hold frame (R8). -/
  | remote
  /-- A classic data frame with an extended identifier, treated like an FD frame (R9). -/
  | classicExtended
  /-- A CAN FD data frame with an extended identifier. -/
  | fdExtended
  deriving DecidableEq, Repr

/-- A frame of another station as it completes on the backbone (R3, R18). -/
structure BusFrame where
  format : FrameFormat
  /-- The 29-bit identifier (R18); of a base frame only the low 11 bits exist, and nothing reads it. -/
  ident : BitVec 29
  payload : List Byte
  deriving DecidableEq, Repr

/-- The commands: events on the lines, at the loader and on the backbone, passages of the frame at
the head of the receive FIFO, timer expiries, and the ECU link's commands. -/
inductive Instr where
  -- starts and the loader (R25 to R28)
  | powerOn
  | resetAsserted
  | lineReset
  | attemptFailed
  | loaderRetryWaitExpiry
  /-- `bytes`: what the configuration memory delivers from address 0 on in the complete attempt. -/
  | imageReadDone (bytes : List Byte)
  -- the FENCE line (R169)
  | fenceLineAssertion
  | fenceLineRelease
  -- the backbone controller (R4 to R16) and the reply segmenter (R156)
  | frameReceived (frame : BusFrame)
  | echo
  | arbitrationStart
  | arbitrationLost
  | transmitError
  | receiveError
  | busReturn
  | waitingRevokeDomainJoins
  | replySegmenterOffer
  -- membership passages (R37 to R42)
  | ownJoinPassage
  | peerJoinPassage
  | presentPassage
  | ownRevokeDomainPassage
  | peerRevokeDomainPassage
  -- claim passages between guards (R98 to R113, R125, R129)
  | announceNewPassage
  | announceResumePassage
  | consentPassage
  | objectPassage
  | verdictGranted
  | verdictResumed
  | verdictRefused
  | verdictLapsed
  | cancelPassage
  | breakPassage
  | endPassage
  -- tester passages
  | admitPassage
  | leavePassage
  | claimPassage
  | renewPassage
  | releasePassage
  | resumePassage
  | continuePassage
  | abortReqPassage
  | fenceFramePassage
  | liftPassage
  | reqFirstPassage
  | reqNextPassage
  -- echoes and refresh
  | answerSegmentEcho
  | statusFrameEcho
  | refreshOnlyPassage
  -- audit queries (R193, R194)
  | queryStatus
  | queryIncidents
  | queryView
  | queryRoster
  | queryTrail
  | queryThaw
  | queryCounters
  | queryCapture
  -- timer expiries (R1)
  | validityTimerExpiry (tester : Tester)
  | quietTimerExpiry (tester : Tester)
  | gapTimerExpiry (tester : Tester)
  | queueWaitExpiry (tester : Tester) (tag : Byte)
  | serviceLimitExpiry
  | stopLimitExpiry
  | windowTimerExpiry (claim : ClaimId)
  | holdTimerExpiry (claim : ClaimId)
  | leaseTimerExpiry (claim : ClaimId)
  -- the ECU link (R177, R178): `data` is the data of the command message, `bytes` the answer bytes
  -- that follow the kind byte of a POST
  | transactionDiscarded
  | take (data : List Byte)
  | read (data : List Byte)
  | postInterim (bytes : List Byte)
  | postPart (bytes : List Byte)
  | postFinal (bytes : List Byte)
  | stopDone (data : List Byte)
  | conditions (data : List Byte)
  | notice (data : List Byte)
  | slotLoad (data : List Byte)
  | slotClear (data : List Byte)
  | status (data : List Byte)
  /-- `message`: the whole command message taken, its CRC-8 byte included. -/
  | unknownCommandCode (message : List Byte)
  deriving DecidableEq, Repr

end Sys2Proof
end

