-- ==== Sys2Proof/Machine/Bytes.lean ====
section
/-!
DEFINITION. Byte-order and field helpers: multi-byte fields are sent most significant byte first
(00_scope.md, Numbers and units).
-/

namespace Sys2Proof.Machine

/-- The byte at an offset of a payload; a byte past the end is taken as 0x00 (R9). -/
def byteAt (p : List Byte) (i : Nat) : Byte := p.getD i 0#8

/-- The 2-byte field at an offset. -/
def word16At (p : List Byte) (i : Nat) : BitVec 16 := byteAt p i ++ byteAt p (i + 1)

/-- The 4-byte field at an offset. -/
def word32At (p : List Byte) (i : Nat) : BitVec 32 := word16At p i ++ word16At p (i + 2)

/-- A 2-byte field, most significant byte first. -/
def bytes16 (w : BitVec 16) : List Byte := [w.extractLsb' 8 8, w.extractLsb' 0 8]

/-- A 4-byte field, most significant byte first. -/
def bytes32 (w : BitVec 32) : List Byte :=
  [w.extractLsb' 24 8, w.extractLsb' 16 8, w.extractLsb' 8 8, w.extractLsb' 0 8]

/-- A number as a 2-byte field. -/
def nat16 (n : Nat) : List Byte := bytes16 (BitVec.ofNat 16 n)

/-- A number as a 4-byte field. -/
def nat32 (n : Nat) : List Byte := bytes32 (BitVec.ofNat 32 n)

/-- A number as one byte. -/
def nat8 (n : Nat) : Byte := BitVec.ofNat 8 n

/-- A mark as one byte: 0x01 for set, 0x00 for clear. R50 and R186 give these codes; for the other marks of
the audit answers (R194) they are the model's choice (log entry 36). -/
def flag8 (b : Bool) : Byte := if b then 0x01#8 else 0x00#8

/-- `n` bytes of `p` from offset `i`; bytes past the end are taken as 0x00 (R9). -/
def takeZero (p : List Byte) (i n : Nat) : List Byte :=
  (List.range n).map fun k => byteAt p (i + k)

/-- A domain set field: bits 12 to 15 are ignored on receipt (R18). -/
def domainSetAt (p : List Byte) (i : Nat) : DomainSet := (word16At p i).extractLsb' 0 12

/-- A class set field: bits 10 to 15 are ignored on receipt (R18). -/
def classSetAt (p : List Byte) (i : Nat) : ClassSet := (word16At p i).extractLsb' 0 10

/-- A domain set as it is sent: bits 12 to 15 as 0 (R18). -/
def bytesOfDomains (d : DomainSet) : List Byte := bytes16 (d.zeroExtend 16)

/-- The home domain of a claim id: its upper 4 bits (R18). -/
def homeOf (id : ClaimId) : Nat := (id.extractLsb' 12 4).toNat

/-- The claim id of a home domain and a sequence value (R18). -/
def claimIdOf (home : Domain) (seq : BitVec 12) : ClaimId := BitVec.ofNat 4 home.val ++ seq

/-- Is a domain in a domain set? -/
def inSet (d : Domain) (ds : DomainSet) : Bool := ds.getLsbD d.val

/-- The set that holds one domain. -/
def onlyDomain (d : Domain) : DomainSet := 1#12 <<< d.val

/-- The domains in ascending order. -/
def allDomains : List Domain := [0, 1, 2, 3, 4, 5, 6, 7, 8, 9, 10, 11]

/-- The testers in ascending address order. -/
def allTesters : List Tester := [0, 1, 2, 3, 4, 5, 6, 7, 8, 9, 10, 11, 12, 13]

/-- The station address of a guard: 0x10 plus its domain number (R5). -/
def guardAddress (d : Domain) : Byte := 0x10#8 + BitVec.ofNat 8 d.val

/-- The station address of a tester (R5). -/
def testerAddress (t : Tester) : Byte := 0xF0#8 + BitVec.ofNat 8 t.val

/-- The address of all stations (R5). -/
abbrev allStations : Byte := 0xFF#8

/-- The tester of a station address, for 0xF0 to 0xFD (R5). -/
def testerOf (a : Byte) : Option Tester :=
  if 0xF0 ≤ a.toNat then
    if h : a.toNat - 0xF0 < 14 then some ⟨a.toNat - 0xF0, h⟩ else none
  else none

/-- The domain of a guard's station address, for 0x10 to 0x1B (R5). -/
def domainOf (a : Byte) : Option Domain :=
  if 0x10 ≤ a.toNat then
    if h : a.toNat - 0x10 < 12 then some ⟨a.toNat - 0x10, h⟩ else none
  else none

end Sys2Proof.Machine
end

