-- ==== Sys2Proof/Config.lean ====
section
/-!
DEFINITION. What the device fixes (capacities and fixed times), and the one value the specification
leaves open.
-/

namespace Sys2Proof.Config

/-- Places of the receive FIFO (R10). -/
abbrev rxPlaces : Nat := 32

/-- Entries of the transmit queue (R11). -/
abbrev txEntries : Nat := 24

/-- The most tester-bound entries of the transmit queue: eight are kept for protocol frames (R11). -/
abbrev txTesterBound : Nat := 16

/-- Places of the local view, records and reservations together (R74, R81). -/
abbrev viewPlaces : Nat := 24

/-- A CLAIM is refused when its tester's claim count is this or more (R82). -/
abbrev claimLimit : Nat := 4

/-- Blocks of the request memory's pool (R136). -/
abbrev poolBlocks : Nat := 96

/-- Blocks that stay free after a reservation for a new request (R136, R139). -/
abbrev blockReserve : Nat := 8

/-- Bytes of one block (R136). -/
abbrev blockBytes : Nat := 128

/-- The longest request and the longest answer in bytes (R139, R152). -/
abbrev longestMessage : Nat := 4095

/-- Entries of the delivery queue (R144). -/
abbrev queueEntries : Nat := 16

/-- The most entries of the delivery queue one tester may have (R139, R144). -/
abbrev queuePerTester : Nat := 4

/-- Answers of the reply list (R156). -/
abbrev replyAnswers : Nat := 16

/-- Places of the notice queue (R182). -/
abbrev noticePlaces : Nat := 8

/-- Places of the notice queue that notices other than STOP may fill (R182). -/
abbrev noticePlain : Nat := 7

/-- Positions of the access trail (R188). -/
abbrev trailPositions : Nat := 512

/-- The loader's wait after a failed attempt, in milliseconds (R27). -/
abbrev loaderWait : Nat := 5

/-- The failed attempt after which the memory does not answer (R27). -/
abbrev loaderAttempts : Nat := 3

/-- The bytes of a refused request that the capture keeps at most (R192). -/
abbrev captureBytes : Nat := 48

/-- FREE VALUE (log entry 9, DESIGN CHOICE). The guard time field that a TRAIL answer gives for a
position never written since power-on: R190 says the field is absent and R194 gives no code for an
absent guard time. The first argument is the number of TRAIL answers staged before, the second the
position. -/
opaque absentTime : Nat → Nat → Time

end Sys2Proof.Config
end

