-- ==== Sys2Proof/Machine/State.lean ====
section
/-!
DEFINITION. The state of the guard, block by block as 00_scope.md lists the blocks, and the state after
reset. Everything is plain data.
-/

namespace Sys2Proof

/-- The ten capability classes (R2). -/
inductive Class where
  | identify
  | readFaults
  | readLive
  | clearFaults
  | actuate
  | routine
  | calibrate
  | reprogram
  | audit
  | fence
  deriving DecidableEq, Repr

end Sys2Proof

namespace Sys2Proof.Machine

/-! ## Whole guard -/

/-- How the guard starts or returns (R20, R25, R44). -/
inductive StartKind where
  | powerOn
  | lineReset
  | busReturn
  deriving DecidableEq, Repr

/-- What the guard as a whole is doing (R25, R26, R30, R31). -/
inductive Phase where
  /-- RESET is asserted; `next` is the start its release will make (R25). -/
  | held (next : StartKind)
  /-- The loader reads and checks the image (R26). -/
  | starting
  /-- The image was rejected (R31). -/
  | unconfigured
  /-- The image is accepted (R30). -/
  | running
  deriving DecidableEq, Repr

/-- The lines of 00_scope.md that are levels of their own. -/
structure Pins where
  /-- RESET input, as asserted after its 1 ms (R25). -/
  resetAsserted : Bool
  /-- FENCE input, as asserted after its 1 ms (R169). -/
  fenceAsserted : Bool
  /-- FAULT output (R168). -/
  fault : Bool
  /-- ATTN output (R187). -/
  attn : Bool
  deriving DecidableEq, Repr

/-- A running timer: the guard time at which it was last started and its length in milliseconds
(R1). A stopped timer is no timer (`none`). -/
structure Timer where
  started : Time
  length : Nat
  deriving DecidableEq, Repr

/-! ## Configuration loader -/

/-- The loader's progress (R27). -/
inductive Loader where
  | idle
  /-- An attempt is under way after `failures` failed ones. -/
  | reading (failures : Nat)
  /-- The wait after the failed attempt number `failures`. -/
  | waiting (failures : Nat) (timer : Timer)
  deriving DecidableEq, Repr

/-- The timing values of the image, in the units it stores (R23, R29). -/
structure Timing where
  claimWindow : Nat
  consentHold : Nat
  leaseMax : Nat
  testerQuiet : Nat
  segmentGap : Nat
  queueWait : Nat
  serviceLimit : Nat
  extensionsMax : Nat
  stopLimit : Nat
  freezeAfter : Nat
  deriving DecidableEq, Repr

/-- Where a request classified by a pattern entry is answered (R61). -/
inductive Disposition where
  | deliver
  | localReply (slot : Fin 4)
  deriving DecidableEq, Repr

/-- A pattern entry (R61). -/
structure Pattern where
  mask : BitVec 16
  values : List Byte
  minLength : Nat
  cls : Class
  disposition : Disposition
  deriving DecidableEq, Repr

/-- The settled configuration (R23, R30, R32). -/
structure Settings where
  vehicleId : BitVec 32
  checkKey : List Byte
  domainMap : DomainSet
  timing : Timing
  /-- The touch table: for classes 3 to 7 in turn, a scope for each home domain 0 to 11. -/
  touch : List DomainSet
  /-- The compatibility matrix: row i for class 3 + i, bit j for class 3 + j. -/
  matrix : List (BitVec 5)
  /-- For classes 3 to 7 the required set and the required values (bit 0 IGNITION_ON and so on). -/
  requirements : List (BitVec 5 × BitVec 5)
  /-- For classes 0 to 7 the delivery level and the mask level (R62). -/
  levels : List (Nat × Nat)
  withdrawn : List (BitVec 32)
  ownDomain : Domain
  fenceAtPowerOn : Bool
  fenceAfterLineReset : Bool
  patterns : List Pattern
  /-- The configuration digest (R32). -/
  digest : BitVec 32
  deriving DecidableEq, Repr

/-- DESIGN CHOICE (log entry 7): what stands in `config` while no image is settled. No rule reads it
before acceptance. -/
def Settings.blank : Settings where
  vehicleId := 0
  checkKey := []
  domainMap := 0
  timing := ⟨0, 0, 0, 0, 0, 0, 0, 0, 0, 0⟩
  touch := []
  matrix := []
  requirements := []
  levels := []
  withdrawn := []
  ownDomain := 0
  fenceAtPowerOn := false
  fenceAfterLineReset := false
  patterns := []
  digest := 0

/-! ## Backbone controller -/

/-- A hold frame by its fields (R6, R18). -/
structure Frame where
  urgency : BitVec 3
  kind : BitVec 6
  source : Byte
  target : Byte
  payload : List Byte
  deriving DecidableEq, Repr

/-- The controller's mode (R15, R16, R17). -/
inductive BusMode where
  | disabled
  | enabled
  | busOff
  deriving DecidableEq, Repr

/-- A place of the receive FIFO (R4, R10). -/
structure RxEntry where
  frame : Frame
  /-- The frame is an echo of the guard's own. -/
  echo : Bool
  /-- Blocks of the request memory freed at its passage (R137). -/
  blocks : Nat
  deriving DecidableEq, Repr

/-- An entry of the transmit queue (R11). -/
structure TxEntry where
  frame : Frame
  /-- Blocks of the request memory assigned to this answer segment (R137). -/
  blocks : Nat
  deriving DecidableEq, Repr

/-- The backbone controller (R10 to R17). -/
structure Backbone where
  mode : BusMode
  txErrors : Nat
  rxErrors : Nat
  /-- Oldest first. -/
  rxFifo : List RxEntry
  /-- In join order. -/
  txQueue : List TxEntry
  /-- The place in `txQueue` of the entry in arbitration or transmission. -/
  sending : Option Nat
  deriving DecidableEq, Repr

/-! ## Membership unit -/

/-- The membership states (R33). -/
inductive MemberState where
  | offline
  | joining
  | member
  | resync
  deriving DecidableEq, Repr

/-- The states of a roster entry (R34). -/
inductive PeerState where
  | absent
  | present
  | foreign
  deriving DecidableEq, Repr

/-- A roster entry (R34). -/
structure RosterEntry where
  state : PeerState
  digest : Option (BitVec 32)
  startKind : Option StartKind
  heard : Option Time
  deriving DecidableEq, Repr

/-- The reasons of a clearing frame: START for a JOIN, the others for a REVOKE_DOMAIN (R35). -/
inductive ClearReason where
  | start
  | resync
  | revoked
  deriving DecidableEq, Repr

/-- The progress of a clearing frame (R35). -/
inductive Progress where
  | waiting
  | queued
  /-- Completed, with its covering mark. -/
  | completed (covering : Bool)
  deriving DecidableEq, Repr

/-- An outstanding clearing frame (R35). -/
structure Clearing where
  reason : ClearReason
  progress : Progress
  deriving DecidableEq, Repr

/-- The membership unit (R33 to R35). -/
structure Membership where
  state : MemberState
  roster : Vector RosterEntry 12
  /-- In the order they were offered. -/
  outstanding : List Clearing
  presentOwed : Bool
  deriving DecidableEq, Repr

/-! ## Admission unit -/

/-- Last end causes (R45). -/
inductive EndCause where
  | none
  | ticketExpired
  | quiet
  | left
  deriving DecidableEq, Repr

/-- The fields of an ADMITTED entry (R45). -/
structure Ticket where
  body : List Byte
  serial : BitVec 32
  workshop : BitVec 32
  classes : ClassSet
  domains : DomainSet
  validity : Timer
  quiet : Timer
  deriving DecidableEq, Repr

/-- An entry of the admission table: VACANT when it holds no ticket (R45). -/
structure Admission where
  ticket : Option Ticket
  lastEnd : EndCause
  deriving DecidableEq, Repr

/-! ## Classifier -/

/-- A standing reply slot (R67): the content of a LOADED slot is as long as its length. -/
inductive Slot where
  | empty
  | loaded (content : List Byte)
  deriving DecidableEq, Repr

/-! ## Hold unit -/

/-- Claim states (R78). -/
inductive ClaimState where
  | pending
  | held
  | suspended
  | resuming
  deriving DecidableEq, Repr

/-- Operation states (R77). -/
inductive OpState where
  | idle
  | active
  | stopping
  deriving DecidableEq, Repr

/-- The sponsor part of a record homed here (R77). -/
structure Sponsor where
  consentSet : DomainSet
  decided : Bool
  window : Option Timer
  /-- Granted lease in seconds. -/
  lease : Nat
  leaseTimer : Option Timer
  ending : Bool
  op : OpState
  /-- Pace credit: set for 1. -/
  credit : Bool
  tag : Byte
  deriving DecidableEq, Repr

/-- A claim record (R75, R76, R77). -/
structure Record where
  id : ClaimId
  tester : Tester
  cls : Class
  scope : DomainSet
  state : ClaimState
  paced : Bool
  oneShot : Bool
  consented : Bool
  holdTimer : Option Timer
  breakSent : Bool
  cancelSent : Bool
  sponsor : Option Sponsor
  deriving DecidableEq, Repr

/-- A reservation (R81). -/
structure Reservation where
  id : ClaimId
  tester : Tester
  cls : Class
  scope : DomainSet
  paced : Bool
  oneShot : Bool
  lease : Nat
  tag : Byte
  deriving DecidableEq, Repr

/-- The hold unit (R74, R81, R96). -/
structure Hold where
  /-- The local view: records in ascending claim id (the canonical order of a table, R74). -/
  view : List Record
  reservations : List Reservation
  nextSeq : BitVec 12
  deriving DecidableEq, Repr

/-! ## Request memory -/

/-- An assembly in progress (R138); it holds the blocks its total length needs and one queue place. -/
structure Assembly where
  tag : Byte
  total : Nat
  claim : ClaimId
  cls : Class
  level : Nat
  disposition : Disposition
  data : List Byte
  nextIndex : Nat
  lastIndex : Nat
  gap : Timer
  deriving DecidableEq, Repr

/-- An assembly lane (R138). -/
inductive Lane where
  | free
  | assembling (a : Assembly)
  | discarding (tag : Byte) (lastIndex : Nat) (gap : Timer)
  deriving DecidableEq, Repr

/-- Where an answer comes from (R22). -/
inductive Origin where
  | ecu
  | standing
  | audit
  deriving DecidableEq, Repr

/-- A staged answer of the reply list (R156). -/
structure Answer where
  tester : Tester
  tag : Byte
  origin : Origin
  cls : Class
  data : List Byte
  /-- Index of the next segment, 0 for ANS_FIRST. -/
  next : Nat
  deriving DecidableEq, Repr

/-- The request memory (R136, R138, R156). -/
structure Memory where
  /-- Free blocks of the pool. -/
  free : Nat
  lanes : Vector Lane 14
  replies : List Answer
  deriving DecidableEq, Repr

/-! ## Delivery unit -/

/-- An entry of the delivery queue (R144); its total length is the length of `data`. -/
structure QueueEntry where
  tester : Tester
  tag : Byte
  cls : Class
  level : Nat
  claim : ClaimId
  data : List Byte
  stamp : BitVec 32
  wait : Timer
  deriving DecidableEq, Repr

/-- The record of the service slot (R150). -/
structure Service where
  tester : Tester
  tag : Byte
  cls : Class
  claim : ClaimId
  data : List Byte
  limit : Option Timer
  interims : Nat
  /-- The answer staging. -/
  staged : List Byte
  orphaned : Bool
  deriving DecidableEq, Repr

/-- The delivery unit (R144, R147, R150). -/
structure Delivery where
  /-- In arrival order. -/
  queue : List QueueEntry
  /-- The last arrival stamp given. -/
  lastStamp : BitVec 32
  service : Option Service
  serviceWanted : Bool
  deriving DecidableEq, Repr

/-! ## Fence unit -/

/-- Stop causes (R160). -/
inductive StopCause where
  | endClaim
  | breakClaim
  | serviceTimeout
  | abort
  | busLoss
  deriving DecidableEq, Repr

/-- Fence causes (R168). -/
inductive FenceCause where
  | line
  | tester
  | stopFailed
  | restart
  | powerOn
  deriving DecidableEq, Repr

/-- The stop order (R160). `testerGone`: the admission of the request's tester has ended since the issue,
so that the request is orphaned (R59); the mark of the request itself, which does not change while the order
is outstanding (R161), follows as the order ends (the model's reading, log entry 33). -/
structure StopOrder where
  tester : Tester
  tag : Byte
  claim : ClaimId
  cls : Class
  cause : StopCause
  limit : Timer
  testerGone : Bool
  deriving DecidableEq, Repr

/-- Kind and cause of an incident (R167). -/
inductive IncidentCause where
  | stop (cause : StopCause)
  | fence (cause : FenceCause)
  deriving DecidableEq, Repr

/-- Status of an incident (R167). -/
inductive IncidentStatus where
  | opened
  | closed
  | overtaken
  deriving DecidableEq, Repr

/-- Outcome of an incident (R167). -/
inductive IncidentOutcome where
  | acknowledged
  | answered
  | timedOut
  | abandoned
  | lifted
  deriving DecidableEq, Repr

/-- An incident (R167). -/
structure Incident where
  cause : IncidentCause
  claim : Option ClaimId
  tester : Option Tester
  tag : Option Byte
  cls : Option Class
  time : Time
  status : IncidentStatus
  outcome : Option IncidentOutcome
  deriving DecidableEq, Repr

/-- The fence unit (R160, R167, R168, R173). -/
structure Fence where
  /-- The domain state: set for FENCED. -/
  fenced : Bool
  /-- The cause set: bit c - 1 for the cause of code c (R181). -/
  causes : BitVec 5
  stop : Option StopOrder
  current : Option Incident
  prior : Option Incident
  /-- The operation-in-flight marker. -/
  marker : Bool
  deriving DecidableEq, Repr

/-! ## ECU link -/

/-- Notice kinds (R181). -/
inductive NoticeKind where
  | stop
  | claimBegin
  | claimSuspended
  | claimResumed
  | claimEnd
  | fenced
  | lifted
  deriving DecidableEq, Repr

/-- A notice (R181). -/
structure Notice where
  kind : NoticeKind
  time : Time
  tester : Option Tester
  tag : Option Byte
  claim : ClaimId
  cls : Option Class
  reason : Byte
  /-- Set for the STOP notice of the outstanding stop order (R160, R182; log entry 30). -/
  ofOrder : Bool
  deriving DecidableEq, Repr

/-- A reported vehicle condition (R180). -/
inductive Tri where
  | true
  | false
  | unknown
  deriving DecidableEq, Repr

/-- The condition set (R180). -/
structure Conditions where
  ignitionOn : Tri
  engineRunning : Tri
  vehicleStopped : Tri
  parkBrakeSet : Tri
  supplyOk : Tri
  deriving DecidableEq, Repr

/-- Link statuses (R24). -/
inductive LinkStatus where
  | ok
  | empty
  | blocked
  | wait
  | stale
  | illegal
  | notReady
  deriving DecidableEq, Repr

/-- The response prepared for a command (R24, R177). -/
structure Response where
  status : LinkStatus
  data : List Byte
  deriving DecidableEq, Repr

/-- The ECU link (R180, R182). -/
structure Link where
  /-- Oldest first. -/
  notices : List Notice
  lost : Bool
  conditions : Conditions
  /-- The response of the last command taken, none before the first. -/
  response : Option Response
  deriving DecidableEq, Repr

/-! ## Trail unit -/

/-- Trail events (R188). -/
inductive TrailEvent where
  | admitted
  | admitRefused
  | granted
  | refused
  | suspended
  | resumed
  | ended
  | delivered
  | stopped
  | incident
  | fenced
  | lifted
  | restart
  | revokedDomain
  | thawed
  deriving DecidableEq, Repr

/-- A trail entry (R188). -/
structure TrailEntry where
  time : Time
  event : TrailEvent
  tester : Option Tester
  claim : Option ClaimId
  cls : Option Class
  detail : Byte
  deriving DecidableEq, Repr

/-- Trail states (R189). -/
inductive TrailMode where
  | recording
  | draining (countdown : Nat)
  | frozen
  deriving DecidableEq, Repr

/-- The refusal capture's content (R192). -/
structure Capture where
  tester : Tester
  tag : Byte
  cls : Option Class
  reason : Byte
  total : Nat
  data : List Byte
  deriving DecidableEq, Repr

/-- The trail unit (R188, R189, R191, R192). -/
structure Trail where
  entries : Vector (Option TrailEntry) 512
  index : Fin 512
  wrapped : Bool
  mode : TrailMode
  skipped : BitVec 16
  counters : Vector (BitVec 16) 25
  capture : Option Capture
  deriving DecidableEq, Repr

/-! ## Outcomes -/

/-- The reasons for which the guard stops with a fault. There is none: no rule of the specification
describes a command that stops the guard, and every command has a next state in every state. -/
inductive Fault where
  deriving DecidableEq, Repr

/-- The reasons for which a command is refused. -/
inductive Refusal where
  /-- A command that has no meaning yet; raised only by an arm of `exec` (none is left). Safe. -/
  | notModelled (mnemonic : String)
  deriving DecidableEq, Repr

/-! ## The state -/

/-- The state of the guard: the queue of commands that wait, and every block's state. -/
structure State where
  /-- Commands that wait, first in first out (MODEL's own, log entry 30). -/
  pending : List Instr
  guardTime : Time
  phase : Phase
  /-- The start in progress or last made: POWER_ON or LINE_RESET (R30). -/
  startKind : StartKind
  pins : Pins
  loader : Loader
  config : Settings
  bus : Backbone
  membership : Membership
  admissions : Vector Admission 14
  slots : Vector Slot 4
  hold : Hold
  memory : Memory
  delivery : Delivery
  fence : Fence
  link : Link
  trail : Trail
  /-- Free values used so far (MODEL's own, log entry 9). -/
  freeCount : Nat
  deriving DecidableEq, Repr

/-- A roster entry that has heard nothing (R34). -/
def RosterEntry.unheard : RosterEntry := ⟨.absent, none, none, none⟩

/-- The condition set after a start (R180). -/
def Conditions.unknown : Conditions := ⟨.unknown, .unknown, .unknown, .unknown, .unknown⟩

/-- The controller after POWER_ON and LINE_RESET (R17). -/
def Backbone.start : Backbone := ⟨.disabled, 0, 0, [], [], none⟩

/-- The membership unit after POWER_ON and LINE_RESET (R33, R34). -/
def Membership.start : Membership := ⟨.offline, Vector.replicate 12 RosterEntry.unheard, [], false⟩

/-- The hold unit after POWER_ON and LINE_RESET (R74, R81, R96). -/
def Hold.start : Hold := ⟨[], [], 0⟩

/-- The request memory after POWER_ON and LINE_RESET (R136, R138, R156). -/
def Memory.start : Memory := ⟨Config.poolBlocks, Vector.replicate 14 .free, []⟩

/-- The delivery unit after POWER_ON and LINE_RESET (R144, R150). -/
def Delivery.start : Delivery := ⟨[], 0, none, false⟩

/-- The fence unit after POWER_ON, before acceptance (R160, R167, R168, R173). -/
def Fence.start : Fence := ⟨false, 0, none, none, none, false⟩

/-- The ECU link after POWER_ON and LINE_RESET (R180, R182). -/
def Link.start : Link := ⟨[], false, Conditions.unknown, none⟩

/-- The trail unit after POWER_ON (R188, R189, R191, R192). -/
def Trail.start : Trail :=
  ⟨Vector.replicate 512 none, 0, false, .recording, 0, Vector.replicate 25 0, none⟩

/-- The guard right after the start of a POWER_ON with RESET and FENCE released: STARTING, the loader
in its first attempt (R25, R26; log entry 6). -/
def State.reset : State where
  pending := []
  guardTime := 0
  phase := .starting
  startKind := .powerOn
  pins := ⟨false, false, false, false⟩
  loader := .reading 0
  config := Settings.blank
  bus := Backbone.start
  membership := Membership.start
  admissions := Vector.replicate 14 ⟨none, .none⟩
  slots := Vector.replicate 4 .empty
  hold := Hold.start
  memory := Memory.start
  delivery := Delivery.start
  fence := Fence.start
  link := Link.start
  trail := Trail.start
  freeCount := 0

/-! ## One plain update for each block -/

namespace State

def onPins (f : Pins → Pins) (s : State) : State := { s with pins := f s.pins }
def onBus (f : Backbone → Backbone) (s : State) : State := { s with bus := f s.bus }
def onMembership (f : Membership → Membership) (s : State) : State :=
  { s with membership := f s.membership }
def onHold (f : Hold → Hold) (s : State) : State := { s with hold := f s.hold }
def onMemory (f : Memory → Memory) (s : State) : State := { s with memory := f s.memory }
def onDelivery (f : Delivery → Delivery) (s : State) : State := { s with delivery := f s.delivery }
def onFence (f : Fence → Fence) (s : State) : State := { s with fence := f s.fence }
def onLink (f : Link → Link) (s : State) : State := { s with link := f s.link }
def onTrail (f : Trail → Trail) (s : State) : State := { s with trail := f s.trail }
def setAdmission (t : Tester) (a : Admission) (s : State) : State :=
  { s with admissions := s.admissions.set t.val a t.isLt }
def setSlot (k : Fin 4) (x : Slot) (s : State) : State :=
  { s with slots := s.slots.set k.val x k.isLt }
def setLane (t : Tester) (l : Lane) (s : State) : State :=
  { s with memory := { s.memory with lanes := s.memory.lanes.set t.val l t.isLt } }
def setPhase (p : Phase) (s : State) : State := { s with phase := p }
def setGuardTime (t : Time) (s : State) : State := { s with guardTime := t }
def setLoader (l : Loader) (s : State) : State := { s with loader := l }
def setConfig (c : Settings) (s : State) : State := { s with config := c }

end State

end Sys2Proof.Machine
end

