-- ==== Sys2Proof/Machine/Operands.lean ====
section
/-!
DEFINITION. The operand forms: frame kinds and identifiers, the payload of every frame the guard
sends, the codes of every field, and the readers of received payloads (R5 to R9, R18 to R22).
-/

namespace Sys2Proof

/-! ## Classes -/

/-- The number of a class (R2). -/
def Class.number : Class → Nat
  | .identify => 0
  | .readFaults => 1
  | .readLive => 2
  | .clearFaults => 3
  | .actuate => 4
  | .routine => 5
  | .calibrate => 6
  | .reprogram => 7
  | .audit => 8
  | .fence => 9

/-- The class of a number (R2). -/
def Class.ofNumber : Nat → Option Class
  | 0 => some .identify
  | 1 => some .readFaults
  | 2 => some .readLive
  | 3 => some .clearFaults
  | 4 => some .actuate
  | 5 => some .routine
  | 6 => some .calibrate
  | 7 => some .reprogram
  | 8 => some .audit
  | 9 => some .fence
  | _ => none

/-- Is a class effecting: 3 to 7 (R2)? -/
def Class.effecting (c : Class) : Bool := 3 ≤ c.number && c.number ≤ 7

/-- The code of a class in a field. -/
def Class.code (c : Class) : Byte := BitVec.ofNat 8 c.number

end Sys2Proof

namespace Sys2Proof.Machine

/-! ## Reason and result codes (R19) -/

namespace Reason

abbrev ok : Byte := 0x00#8
abbrev released : Byte := 0x01#8
abbrev expired : Byte := 0x02#8
abbrev gone : Byte := 0x03#8
abbrev revoked : Byte := 0x04#8
abbrev resync : Byte := 0x05#8
abbrev peerRestart : Byte := 0x06#8
abbrev done : Byte := 0x07#8
abbrev lapsed : Byte := 0x08#8
abbrev cancelled : Byte := 0x09#8
abbrev holdExpired : Byte := 0x0A#8
abbrev condition : Byte := 0x0B#8
abbrev conflict : Byte := 0x0C#8
abbrev tableFull : Byte := 0x0D#8
abbrev mismatch : Byte := 0x0E#8
abbrev peerAbsent : Byte := 0x0F#8
abbrev notReady : Byte := 0x10#8
abbrev fenced : Byte := 0x11#8
abbrev claimLimit : Byte := 0x12#8
abbrev capability : Byte := 0x13#8
abbrev notAdmitted : Byte := 0x14#8
abbrev claimNotHeld : Byte := 0x15#8
abbrev noClaim : Byte := 0x16#8
abbrev notFound : Byte := 0x17#8
abbrev already : Byte := 0x18#8
abbrev duplicateTag : Byte := 0x19#8
abbrev busyLane : Byte := 0x1A#8
abbrev tooLong : Byte := 0x1B#8
abbrev unclassified : Byte := 0x1C#8
abbrev queueFull : Byte := 0x1D#8
abbrev memoryFull : Byte := 0x1E#8
abbrev sequence : Byte := 0x1F#8
abbrev assemblyTimeout : Byte := 0x20#8
abbrev queueTimeout : Byte := 0x21#8
abbrev ecuTimeout : Byte := 0x22#8
abbrev stopped : Byte := 0x23#8
abbrev aborted : Byte := 0x24#8
abbrev notAbortable : Byte := 0x25#8
abbrev lineActive : Byte := 0x26#8
abbrev badTicket : Byte := 0x27#8
abbrev wrongVehicle : Byte := 0x28#8
abbrev wrongTester : Byte := 0x29#8
abbrev withdrawn : Byte := 0x2A#8
abbrev notForDomain : Byte := 0x2B#8
abbrev staleTicket : Byte := 0x2C#8

end Reason

/-! ## Codes of the other fields -/

/-- Start kind codes (R20). -/
def StartKind.code : StartKind → Byte
  | .powerOn => 0x01#8
  | .lineReset => 0x02#8
  | .busReturn => 0x03#8

/-- The start kind of a code (R20, R34). -/
def StartKind.ofCode (b : Byte) : Option StartKind :=
  if b = 0x01#8 then some .powerOn
  else if b = 0x02#8 then some .lineReset
  else if b = 0x03#8 then some .busReturn
  else none

/-- Reason code of a REVOKE_DOMAIN (R20). -/
def ClearReason.code : ClearReason → Byte
  | .start => Reason.peerRestart
  | .resync => Reason.resync
  | .revoked => Reason.revoked

/-- Claim state codes of CLAIM_STATUS and VIEW (R22, R194). -/
def ClaimState.code : ClaimState → Byte
  | .pending => 0x01#8
  | .held => 0x02#8
  | .suspended => 0x03#8
  | .resuming => 0x04#8

/-- CLAIM_STATUS states that no record has (R22). -/
abbrev statusEnded : Byte := 0x05#8
abbrev statusRefused : Byte := 0x06#8

/-- VERDICT outcomes (R20). -/
inductive VerdictOutcome where
  | granted
  | resumed
  | refused
  | lapsed
  deriving DecidableEq, Repr

def VerdictOutcome.code : VerdictOutcome → Byte
  | .granted => 0x01#8
  | .resumed => 0x02#8
  | .refused => 0x03#8
  | .lapsed => 0x04#8

/-- Announce kinds (R20): NEW and RESUME. -/
inductive AnnounceKind where
  | fresh
  | resume
  deriving DecidableEq, Repr

def AnnounceKind.code : AnnounceKind → Byte
  | .fresh => 0x01#8
  | .resume => 0x02#8

/-- Operation state codes (R194). -/
def OpState.code : OpState → Byte
  | .idle => 0x00#8
  | .active => 0x01#8
  | .stopping => 0x02#8

/-- Stop cause codes (R181). -/
def StopCause.code : StopCause → Byte
  | .endClaim => 0x01#8
  | .breakClaim => 0x02#8
  | .serviceTimeout => 0x03#8
  | .abort => 0x04#8
  | .busLoss => 0x05#8

/-- Fence cause numbers (R181). -/
def FenceCause.number : FenceCause → Nat
  | .line => 1
  | .tester => 2
  | .stopFailed => 3
  | .restart => 4
  | .powerOn => 5

/-- Fence cause codes (R181). -/
def FenceCause.code (c : FenceCause) : Byte := BitVec.ofNat 8 c.number

/-- The bit of a fence cause in the cause set: bit c - 1 for the cause of code c (R181). -/
def FenceCause.bit (c : FenceCause) : BitVec 5 := 1#5 <<< (c.number - 1)

/-- Membership state codes (R186). -/
def MemberState.code : MemberState → Byte
  | .offline => 0x00#8
  | .joining => 0x01#8
  | .member => 0x02#8
  | .resync => 0x03#8

/-- Roster state codes (R194). -/
def PeerState.code : PeerState → Byte
  | .absent => 0x00#8
  | .present => 0x01#8
  | .foreign => 0x02#8

/-- Last end cause codes (R194). -/
def EndCause.code : EndCause → Byte
  | .none => 0x00#8
  | .ticketExpired => 0x01#8
  | .quiet => 0x02#8
  | .left => 0x03#8

/-- Trail state codes (R194). -/
def TrailMode.code : TrailMode → Byte
  | .recording => 0x00#8
  | .draining _ => 0x01#8
  | .frozen => 0x02#8

/-- Trail event codes (R188). -/
def TrailEvent.code : TrailEvent → Byte
  | .admitted => 0x01#8
  | .admitRefused => 0x02#8
  | .granted => 0x03#8
  | .refused => 0x04#8
  | .suspended => 0x05#8
  | .resumed => 0x06#8
  | .ended => 0x07#8
  | .delivered => 0x08#8
  | .stopped => 0x09#8
  | .incident => 0x0A#8
  | .fenced => 0x0B#8
  | .lifted => 0x0C#8
  | .restart => 0x0D#8
  | .revokedDomain => 0x0E#8
  | .thawed => 0x0F#8

/-- Notice kind codes (R181). -/
def NoticeKind.code : NoticeKind → Byte
  | .stop => 0x01#8
  | .claimBegin => 0x02#8
  | .claimSuspended => 0x03#8
  | .claimResumed => 0x04#8
  | .claimEnd => 0x05#8
  | .fenced => 0x06#8
  | .lifted => 0x07#8

/-- Incident kind and cause codes (R194, R181). -/
def IncidentCause.codes : IncidentCause → List Byte
  | .stop c => [0x01#8, c.code]
  | .fence c => [0x02#8, c.code]

/-- Incident status codes (R194). -/
def IncidentStatus.code : IncidentStatus → Byte
  | .opened => 0x01#8
  | .closed => 0x02#8
  | .overtaken => 0x03#8

/-- Incident outcome codes (R194). -/
def IncidentOutcome.code : IncidentOutcome → Byte
  | .acknowledged => 0x01#8
  | .answered => 0x02#8
  | .timedOut => 0x03#8
  | .abandoned => 0x04#8
  | .lifted => 0x05#8

/-- Origin codes of ANS_FIRST (R22). -/
def Origin.code : Origin → Byte
  | .ecu => 0x00#8
  | .standing => 0x01#8
  | .audit => 0x02#8

/-- Link status codes (R24). -/
def LinkStatus.code : LinkStatus → Byte
  | .ok => 0x00#8
  | .empty => 0x01#8
  | .blocked => 0x02#8
  | .wait => 0x03#8
  | .stale => 0x04#8
  | .illegal => 0x05#8
  | .notReady => 0x06#8

/-- An absent tester is 0x00 (R181, R194). -/
def testerCode : Option Tester → Byte
  | some t => testerAddress t
  | none => 0x00#8

/-- An absent tag is 0x00 (R181; in the INCIDENTS answer DEDUCED, log entry 10). -/
def tagCode : Option Byte → Byte
  | some b => b
  | none => 0x00#8

/-- An absent claim id is 0xFFFF (R181, R194). -/
def claimCode : Option ClaimId → ClaimId
  | some c => c
  | none => noClaim

/-- An absent class is 0xFF (R181, R194). -/
def classCode : Option Class → Byte
  | some c => c.code
  | none => 0xFF#8

/-! ## Frame kinds (R6, R7) -/

/-- The kinds of hold frame (R7). -/
inductive FrameKind where
  | join
  | present
  | announce
  | consent
  | object
  | verdict
  | cancel
  | breakClaim
  | endClaim
  | revokeDomain
  | admitTicket
  | leave
  | claim
  | renew
  | release
  | resume
  | continueClaim
  | abortReq
  | query
  | fence
  | lift
  | reqFirst
  | reqNext
  | admitAck
  | claimStatus
  | result
  | ansFirst
  | ansNext
  | ansWait
  deriving DecidableEq, Repr

/-- Kind codes (R7). -/
def FrameKind.code : FrameKind → BitVec 6
  | .join => 0x01#6
  | .present => 0x02#6
  | .announce => 0x03#6
  | .consent => 0x04#6
  | .object => 0x05#6
  | .verdict => 0x06#6
  | .cancel => 0x07#6
  | .breakClaim => 0x08#6
  | .endClaim => 0x09#6
  | .revokeDomain => 0x0A#6
  | .admitTicket => 0x10#6
  | .leave => 0x11#6
  | .claim => 0x12#6
  | .renew => 0x13#6
  | .release => 0x14#6
  | .resume => 0x15#6
  | .continueClaim => 0x16#6
  | .abortReq => 0x17#6
  | .query => 0x18#6
  | .fence => 0x19#6
  | .lift => 0x1A#6
  | .reqFirst => 0x20#6
  | .reqNext => 0x21#6
  | .admitAck => 0x28#6
  | .claimStatus => 0x29#6
  | .result => 0x2A#6
  | .ansFirst => 0x2B#6
  | .ansNext => 0x2C#6
  | .ansWait => 0x2D#6

/-- The kind code as a subject kind field of one byte (R22). -/
def FrameKind.byte (k : FrameKind) : Byte := k.code.zeroExtend 8

/-- Every kind, for reading a code back. -/
def allKinds : List FrameKind :=
  [.join, .present, .announce, .consent, .object, .verdict, .cancel, .breakClaim, .endClaim,
   .revokeDomain, .admitTicket, .leave, .claim, .renew, .release, .resume, .continueClaim,
   .abortReq, .query, .fence, .lift, .reqFirst, .reqNext, .admitAck, .claimStatus, .result,
   .ansFirst, .ansNext, .ansWait]

/-- The kind of a code; codes absent from the table of R7 are unknown kinds. -/
def FrameKind.ofCode (c : BitVec 6) : Option FrameKind := allKinds.find? fun k => k.code == c

/-- Guard-to-guard kinds (R7). -/
def FrameKind.guardKind : FrameKind → Bool
  | .join | .present | .announce | .consent | .object | .verdict | .cancel | .breakClaim
  | .endClaim | .revokeDomain => true
  | _ => false

/-- Tester-to-guard kinds (R7). -/
def FrameKind.testerKind : FrameKind → Bool
  | .admitTicket | .leave | .claim | .renew | .release | .resume | .continueClaim | .abortReq
  | .query | .fence | .lift | .reqFirst | .reqNext => true
  | _ => false

/-- Answer segments (R11, R137). -/
def FrameKind.answerKind : FrameKind → Bool
  | .ansFirst | .ansNext => true
  | _ => false

/-- Status frames (R14). -/
def FrameKind.statusKind : FrameKind → Bool
  | .admitAck | .claimStatus | .result | .ansWait => true
  | _ => false

/-- Tester-to-guard kinds handled under 0xFF as well as under the own address (R7). -/
def FrameKind.broadcast : FrameKind → Bool
  | .admitTicket | .leave | .fence => true
  | _ => false

/-- The urgency of each kind: for the kinds the guard sends, the table of R6; the urgency field of
other kinds is ignored on receipt, and testers send FENCE at 1, segments at 6, the rest at 4. -/
def FrameKind.urgency : FrameKind → BitVec 3
  | .breakClaim | .cancel | .endClaim | .revokeDomain | .fence => 1#3
  | .join | .present | .announce | .consent | .object | .verdict => 2#3
  | .ansFirst | .ansNext | .reqFirst | .reqNext => 6#3
  | _ => 4#3

/-- The minimum payload length of each kind (R20, R21, R22). -/
def FrameKind.minLength : FrameKind → Nat
  | .join => 6
  | .present => 5
  | .announce => 8
  | .consent => 4
  | .object => 4
  | .verdict => 4
  | .cancel => 3
  | .breakClaim => 3
  | .endClaim => 3
  | .revokeDomain => 2
  | .admitTicket => 36
  | .leave => 0
  | .claim => 5
  | .renew => 2
  | .release => 2
  | .resume => 2
  | .continueClaim => 2
  | .abortReq => 1
  | .query => 5
  | .fence => 0
  | .lift => 0
  | .reqFirst => 5
  | .reqNext => 2
  | .admitAck => 5
  | .claimStatus => 8
  | .result => 5
  | .ansFirst => 6
  | .ansNext => 2
  | .ansWait => 2

/-! ## Identifiers and frames (R9, R18) -/

/-- The 29-bit identifier of a frame (R18). -/
def Frame.ident (f : Frame) : BitVec 29 :=
  f.urgency ++ f.kind ++ f.source ++ f.target ++ 0#4

/-- The frame that a received identifier and payload spell (R18); bits 3 to 0 are ignored. -/
def Frame.ofIdent (ident : BitVec 29) (payload : List Byte) : Frame where
  urgency := ident.extractLsb' 26 3
  kind := ident.extractLsb' 20 6
  source := ident.extractLsb' 12 8
  target := ident.extractLsb' 4 8
  payload := payload

/-- The known kind of a frame, if it has one. -/
def Frame.kind? (f : Frame) : Option FrameKind := FrameKind.ofCode f.kind

/-- The data lengths the bus offers (R9). -/
def busLengths : List Nat := [0, 1, 2, 3, 4, 5, 6, 7, 8, 12, 16, 20, 24, 32, 48, 64]

/-- The smallest data length of the bus that holds `n` bytes (R9). -/
def busLength (n : Nat) : Nat := (busLengths.find? fun m => n ≤ m).getD n

/-- A payload filled with 0x00 to the data length of the bus (R9). -/
def padPayload (p : List Byte) : List Byte := p ++ List.replicate (busLength p.length - p.length) 0#8

/-- A frame the guard sends: its own address as source, its kind's urgency (R5, R6, R9). -/
def ownFrame (own : Domain) (k : FrameKind) (target : Byte) (payload : List Byte) : Frame where
  urgency := k.urgency
  kind := k.code
  source := guardAddress own
  target := target
  payload := padPayload payload

/-- A guard-to-guard frame the guard sends, with target 0xFF (R5). -/
def guardFrame (own : Domain) (k : FrameKind) (payload : List Byte) : Frame :=
  ownFrame own k allStations payload

/-- A tester-bound frame the guard sends (R5). -/
def testerFrame (own : Domain) (k : FrameKind) (t : Tester) (payload : List Byte) : Frame :=
  ownFrame own k (testerAddress t) payload

/-! ## Payloads the guard sends (R20, R22) -/

def joinPayload (digest : BitVec 32) (own : Domain) (kind : StartKind) : List Byte :=
  bytes32 digest ++ [nat8 own.val, kind.code]

def presentPayload (digest : BitVec 32) (own : Domain) : List Byte :=
  bytes32 digest ++ [nat8 own.val]

/-- Bit 0 PACED, bit 1 ONE_SHOT (R20). -/
def flagsByte (paced oneShot : Bool) : Byte :=
  (if paced then 0x01#8 else 0x00#8) ||| (if oneShot then 0x02#8 else 0x00#8)

def announcePayload (id : ClaimId) (kind : AnnounceKind) (t : Tester) (c : Class)
    (scope : DomainSet) (paced oneShot : Bool) : List Byte :=
  bytes16 id ++ [kind.code, testerAddress t, c.code] ++ bytesOfDomains scope ++
    [flagsByte paced oneShot]

/-- CONSENT, with reason OK, and OBJECT (R20). -/
def votePayload (id : ClaimId) (kind : AnnounceKind) (reason : Byte) : List Byte :=
  bytes16 id ++ [kind.code, reason]

def verdictPayload (id : ClaimId) (outcome : VerdictOutcome) (reason : Byte) : List Byte :=
  bytes16 id ++ [outcome.code, reason]

/-- CANCEL, BREAK and END (R20). -/
def claimReasonPayload (id : ClaimId) (reason : Byte) : List Byte := bytes16 id ++ [reason]

def revokePayload (own : Domain) (reason : ClearReason) : List Byte := [nat8 own.val, reason.code]

def admitAckPayload (result : Byte) (serial : BitVec 32) : List Byte := result :: bytes32 serial

def claimStatusPayload (id : ClaimId) (tag state reason cls : Byte) (lease : Nat) : List Byte :=
  bytes16 id ++ [tag, state, reason, cls] ++ nat16 lease

def resultPayload (subject : FrameKind) (tag reason : Byte) (id : ClaimId) : List Byte :=
  [subject.byte, tag, reason] ++ bytes16 id

def ansWaitPayload (tag : Byte) (count : Nat) : List Byte := [tag, nat8 count]

/-! ## Readers of received payloads -/

/-- The minimum payload check of R8 and R9. -/
def Frame.tooShort (k : FrameKind) (f : Frame) : Bool := f.payload.length < k.minLength

/-- Source classes of the acceptance rule (R5, R8). -/
inductive SourceClass where
  | own
  | peer (d : Domain)
  | tester (t : Tester)
  | foreign
  deriving DecidableEq, Repr

/-- The class of a source address (R5). -/
def sourceClass (c : Settings) (a : Byte) : SourceClass :=
  match domainOf a with
  | some d => if d = c.ownDomain then .own else if inSet d c.domainMap then .peer d else .foreign
  | none =>
    match testerOf a with
    | some t => .tester t
    | none => .foreign

/-- Is a target the own address or 0xFF (R8)? -/
def targetsOwnOrAll (c : Settings) (a : Byte) : Bool :=
  a == guardAddress c.ownDomain || a == allStations

/-- Does R7 let the guard handle a tester-to-guard kind under a target? -/
def targetAllows (c : Settings) (k : FrameKind) (a : Byte) : Bool :=
  a == guardAddress c.ownDomain || (k.broadcast && a == allStations)

/-- The domain of the guard that sent a frame, own or fitted peer. -/
def guardSender (c : Settings) (f : Frame) : Option Domain :=
  match sourceClass c f.source with
  | .own => some c.ownDomain
  | .peer d => some d
  | _ => none

/-- The tester a received tester frame of a kind and an allowed target comes from (R7, R8). -/
def testerSender (c : Settings) (k : FrameKind) (e : RxEntry) : Option Tester :=
  if e.echo then none
  else if e.frame.kind? = some k && targetAllows c k e.frame.target then testerOf e.frame.source
  else none

/-! ## Blocks and segments (R136 to R138, R156) -/

/-- Blocks for `n` bytes: one for every 128 bytes or part of them (R136). -/
def blocksFor (n : Nat) : Nat := (n + 127) / 128

/-- The last segment index of a request of total length `n` (R138). -/
def lastSegment (n : Nat) : Nat := if n ≤ 59 then 0 else (n - 59 + 61) / 62

/-- Segments of an answer of `n` bytes (R156). -/
def segmentCount (n : Nat) : Nat := if n ≤ 58 then 1 else 1 + (n - 58 + 61) / 62

/-- The end of the bytes that segments 0 to `k` of an answer of `n` bytes carry (R9, R137). -/
def segmentEnd (n k : Nat) : Nat := min n (58 + 62 * k)

/-- Blocks of an answer of `n` bytes whose last byte stands below `e` (R137). -/
def blocksBelow (n e : Nat) : Nat := if n ≤ e then blocksFor n else e / 128

/-- Blocks of an answer of `n` bytes assigned to the segments before segment `k` (R137). -/
def blocksBefore (n k : Nat) : Nat :=
  match k with
  | 0 => 0
  | k + 1 => blocksBelow n (segmentEnd n k)

/-- Blocks assigned to segment `k`: those that carry their last byte in it (R137). -/
def blocksOfSegment (n k : Nat) : Nat := blocksBefore n (k + 1) - blocksBefore n k

/-- The bytes of segment `k` of an answer (R9). -/
def segmentBytes (data : List Byte) (k : Nat) : List Byte :=
  match k with
  | 0 => data.take 58
  | k + 1 => (data.drop (58 + 62 * k)).take 62

/-- The payload of the next segment of a staged answer (R22, R156). -/
def Answer.payload (a : Answer) : List Byte :=
  match a.next with
  | 0 => a.tag :: nat16 a.data.length ++
      [a.origin.code, nat8 (segmentCount a.data.length), a.cls.code] ++ segmentBytes a.data 0
  | k + 1 => [a.tag, nat8 (k + 1)] ++ segmentBytes a.data (k + 1)

/-- The kind of the next segment of a staged answer. -/
def Answer.kind (a : Answer) : FrameKind := if a.next = 0 then .ansFirst else .ansNext

/-- Blocks a staged answer still holds in the reply list (R136). -/
def Answer.blocks (a : Answer) : Nat := blocksFor a.data.length - blocksBefore a.data.length a.next

end Sys2Proof.Machine
end

