-- ==== Sys2Proof/Machine/Ops.lean ====
section
/-!
DEFINITION. The named operations that the blocks share: timers, counters, trail and capture; the
configuration's tables; admission questions; claim records; offers to the transmit queue and the loss
event; notices; blocks and results; the frame at the head of the receive FIFO.
-/

namespace Sys2Proof.Machine

/-! ## Timers (R1) -/

/-- The guard time at which a running timer expires (R1). -/
def Timer.due (t : Timer) : Time := t.started + BitVec.ofNat 32 t.length

/-- The guard time passed since a timer was started, counted across a wrap (R1). -/
def Timer.elapsed (now : Time) (t : Timer) : Nat := (now - t.started).toNat

/-- The milliseconds a running timer has left; 0 once it is due (log entry 27). -/
def Timer.remaining (now : Time) (t : Timer) : Nat := t.length - t.elapsed now

/-- The time left in whole seconds, rounded up (R45, R91). -/
def Timer.remainingSeconds (now : Time) (t : Timer) : Nat := (t.remaining now + 999) / 1000

/-- A timer started now (R1). -/
def State.startTimer (s : State) (length : Nat) : Timer := ⟨s.guardTime, length⟩

/-- The moment of a timer's expiry: guard time moves on to it unless it has reached it (log entry 3). -/
def State.reachDue (s : State) (t : Timer) : State :=
  if t.elapsed s.guardTime < t.length then s.setGuardTime t.due else s

/-- One millisecond passes with nothing done (log entry 2): guard time rises by one and wraps (R1), and
stands while RESET is asserted (R25). -/
def State.tick (s : State) : State :=
  match s.phase with
  | .held _ => s
  | _ => s.setGuardTime (s.guardTime + 1)

/-! ## Counters (R191) -/

/-- One more, staying at 65535 (R189, R191). -/
def saturate16 (w : BitVec 16) : BitVec 16 := if w = 0xFFFF#16 then w else w + 1

namespace Counter

abbrev claimRefused : Fin 25 := 18
abbrev admitRefused : Fin 25 := 17
abbrev delivered : Fin 25 := 19
abbrev answered : Fin 25 := 20
abbrev txDropped : Fin 25 := 21
abbrev foreignFrames : Fin 25 := 22
abbrev rxLosses : Fin 25 := 23
abbrev lateVotes : Fin 25 := 24

end Counter

/-- Raise a counter by one (R191). -/
def State.count (s : State) (k : Fin 25) : State :=
  s.onTrail fun t => { t with counters := t.counters.set k.val (saturate16 t.counters[k]) k.isLt }

/-- The counter of a request refusal's reason: numbers 0 to 16 (R191). -/
def reasonCounter (reason : Byte) : Option (Fin 25) :=
  if reason = Reason.notAdmitted then some 0
  else if reason = Reason.duplicateTag then some 1
  else if reason = Reason.busyLane then some 2
  else if reason = Reason.tooLong then some 3
  else if reason = Reason.unclassified then some 4
  else if reason = Reason.capability then some 5
  else if reason = Reason.noClaim then some 6
  else if reason = Reason.claimNotHeld then some 7
  else if reason = Reason.queueFull then some 8
  else if reason = Reason.memoryFull then some 9
  else if reason = Reason.sequence then some 10
  else if reason = Reason.assemblyTimeout then some 11
  else if reason = Reason.queueTimeout then some 12
  else if reason = Reason.ecuTimeout then some 13
  else if reason = Reason.stopped then some 14
  else if reason = Reason.aborted then some 15
  else if reason = Reason.fenced then some 16
  else none

/-- Raise the counter of a reason (R140, R191). -/
def State.countReason (s : State) (reason : Byte) : State :=
  match reasonCounter reason with
  | some k => s.count k
  | none => s

/-! ## The access trail and the refusal capture (R188, R189, R192) -/

/-- Write an entry at the write index (R188). -/
def Trail.write (t : Trail) (e : TrailEntry) : Trail :=
  { t with
    entries := t.entries.set t.index.val (some e) t.index.isLt
    index := t.index + 1
    wrapped := t.wrapped || t.index == 511 }

/-- Post an entry. `drain` is the FREEZE_AFTER of the FENCED entry of a fence entry, which starts
DRAINING from RECORDING (R189). -/
def Trail.post (t : Trail) (e : TrailEntry) (drain : Option Nat) : Trail :=
  match t.mode with
  | .recording =>
    match drain with
    | none => t.write e
    | some n => { t.write e with mode := if n = 0 then .frozen else .draining n }
  | .draining n => { t.write e with mode := if n ≤ 1 then .frozen else .draining (n - 1) }
  | .frozen => { t with skipped := saturate16 t.skipped }

/-- Post a trail entry with the guard time of the event (R188). -/
def State.post (s : State) (event : TrailEvent) (tester : Option Tester) (claim : Option ClaimId)
    (cls : Option Class) (detail : Byte) : State :=
  s.onTrail fun t => t.post ⟨s.guardTime, event, tester, claim, cls, detail⟩ none

/-- Post the FENCED entry of a fence entry (R171 step 9, R189). -/
def State.postFenceEntry (s : State) (cause : FenceCause) : State :=
  s.onTrail fun t =>
    t.post ⟨s.guardTime, .fenced, none, none, none, cause.code⟩ (some s.config.timing.freezeAfter)

/-- Offer a refused request to the capture: an empty capture takes it (R192). -/
def State.offerCapture (s : State) (c : Capture) : State :=
  s.onTrail fun t =>
    { t with capture := t.capture.orElse fun _ => some { c with data := c.data.take Config.captureBytes } }

/-! ## The configuration's tables -/

/-- The place of an effecting class in the tables of the image: class 3 first (R23). -/
def Class.place (c : Class) : Nat := c.number - 3

/-- The scope of a class homed at a domain: the touch-table entry (R84). -/
def Settings.scope (c : Settings) (cls : Class) (home : Domain) : DomainSet :=
  c.touch.getD (12 * Class.place cls + home.val) 0

/-- Does the matrix mark two classes compatible (R85)? -/
def Settings.compatible (c : Settings) (x y : Class) : Bool :=
  (c.matrix.getD (Class.place x) 0).getLsbD (Class.place y)

/-- The delivery level of a class (R62). -/
def Settings.deliveryLevel (c : Settings) (cls : Class) : Nat := (c.levels.getD cls.number (1, 0)).1

/-- The mask level of a class (R62). -/
def Settings.maskLevel (c : Settings) (cls : Class) : Nat := (c.levels.getD cls.number (1, 0)).2

/-- The five conditions in the order of R23. -/
def Conditions.all (c : Conditions) : List Tri :=
  [c.ignitionOn, c.engineRunning, c.vehicleStopped, c.parkBrakeSet, c.supplyOk]

/-- Is one requirement met by a value (R86)? -/
def requirementMet (required value : Bool) (t : Tri) : Bool :=
  !required || (t == if value then Tri.true else Tri.false)

/-- Are the condition requirements of a class met (R86)? -/
def Settings.conditionsMet (c : Settings) (cls : Class) (v : Conditions) : Bool :=
  let r := c.requirements.getD (Class.place cls) (0, 0)
  (List.range 5).all fun i => requirementMet (r.1.getLsbD i) (r.2.getLsbD i) (v.all.getD i .unknown)

/-- Are the condition requirements of a class met by the condition set (R87)? -/
def State.conditionsMet (s : State) (cls : Class) : Bool :=
  s.config.conditionsMet cls s.link.conditions

/-! ## Admission questions (R53) -/

/-- The ticket of a tester's entry. -/
def State.ticket (s : State) (t : Tester) : Option Ticket := s.admissions[t].ticket

/-- Is the tester admitted (R53)? -/
def State.admitted (s : State) (t : Tester) : Bool := (s.ticket t).isSome

/-- Is a class granted (R53)? -/
def State.grants (s : State) (t : Tester) (cls : Class) : Bool :=
  match s.ticket t with
  | some k => k.classes.getLsbD cls.number
  | none => false

/-! ## Claim records (R74 to R83) -/

/-- The record of a claim id in the local view. -/
def State.record? (s : State) (id : ClaimId) : Option Record := s.hold.view.find? fun r => r.id == id

/-- Change the record of a claim id. -/
def Hold.updateRecord (h : Hold) (id : ClaimId) (f : Record → Record) : Hold :=
  { h with view := h.view.map fun r => if r.id = id then f r else r }

/-- Change the record of a claim id. -/
def State.updateRecord (s : State) (id : ClaimId) (f : Record → Record) : State :=
  s.onHold fun h => h.updateRecord id f

/-- Change the sponsor part of a record, if it has one. -/
def Record.onSponsor (r : Record) (f : Sponsor → Sponsor) : Record :=
  { r with sponsor := r.sponsor.map f }

/-- Change the sponsor part of a claim's record. -/
def State.updateSponsor (s : State) (id : ClaimId) (f : Sponsor → Sponsor) : State :=
  s.updateRecord id fun r => r.onSponsor f

/-- Enter a record into the view, in ascending claim id. -/
def insertRecord (r : Record) : List Record → List Record
  | [] => [r]
  | x :: xs => if r.id.toNat < x.id.toNat then r :: x :: xs else x :: insertRecord r xs

/-- Create a record (R74). -/
def State.createRecord (s : State) (r : Record) : State :=
  s.onHold fun h => { h with view := insertRecord r h.view }

/-- Remove a record with everything local to it (R80). -/
def State.removeRecord (s : State) (id : ClaimId) : State :=
  s.onHold fun h => { h with view := h.view.filter fun r => r.id != id }

/-- Set a claim's operation state where the record stands (R77, R154). -/
def State.setOperation (s : State) (id : ClaimId) (op : OpState) : State :=
  s.updateSponsor id fun p => { p with op := op }

/-- The reservation of a claim id (R81). -/
def State.reservation? (s : State) (id : ClaimId) : Option Reservation :=
  s.hold.reservations.find? fun r => r.id == id

/-- Release the reservation of a claim id (R81). -/
def State.releaseReservation (s : State) (id : ClaimId) : State :=
  s.onHold fun h => { h with reservations := h.reservations.filter fun r => r.id != id }

/-- Room for a new place: records and reservations number below 24 (R81). -/
def State.hasRoom (s : State) : Bool :=
  s.hold.view.length + s.hold.reservations.length < Config.viewPlaces

/-- A tester's claim count at this guard (R82). -/
def State.claimCount (s : State) (t : Tester) : Nat :=
  s.hold.view.countP (fun r => r.sponsor.isSome && r.tester == t) +
    s.hold.reservations.countP fun r => r.tester == t

/-- Is a record occupying (R83)? -/
def Record.occupying (r : Record) : Bool :=
  match r.state with
  | .held | .suspended | .resuming => true
  | .pending => r.consented

/-- Does a class conflict with an occupying record (R85)? -/
def State.conflicts (s : State) (cls : Class) : Bool :=
  s.hold.view.any fun r => r.occupying && !s.config.compatible cls r.cls

/-- The claim standing of a claim id (R90). -/
inductive Standing where
  | absent
  | elsewhere (r : Record)
  | here (r : Record) (p : Sponsor)
  deriving DecidableEq, Repr

/-- The claim standing of a claim id at this moment (R90). -/
def State.standing (s : State) (id : ClaimId) : Standing :=
  match s.record? id with
  | none => .absent
  | some r =>
    match r.sponsor with
    | none => .elsewhere r
    | some p => .here r p

/-- The negotiation of a record is undecided at the sponsor (R105, R121). -/
def undecided (r : Record) (p : Sponsor) : Bool :=
  (r.state == .pending || r.state == .resuming) && !p.decided && !p.ending

/-! ## The transmit queue (R11 to R14) and the loss event (R36) -/

/-- Is an entry a protocol entry: a guard-to-guard kind (R11)? -/
def TxEntry.isProtocol (e : TxEntry) : Bool :=
  match e.frame.kind? with
  | some k => k.guardKind
  | none => false

/-- The number of tester-bound entries (R11). -/
def Backbone.testerEntries (b : Backbone) : Nat := b.txQueue.countP fun e => !e.isProtocol

/-- Is a REVOKE_DOMAIN waiting (R13, R35)? -/
def State.revokeWaits (s : State) : Bool :=
  s.membership.outstanding.any fun c => c.progress == .waiting

/-- Room for a protocol frame (R11). -/
def State.roomForProtocol (s : State) : Bool := s.bus.txQueue.length < Config.txEntries

/-- Room for a tester-bound frame (R11); a freed entry goes to a waiting REVOKE_DOMAIN first (R13; log
entry 15). -/
def State.roomForTester (s : State) : Bool :=
  s.bus.testerEntries < Config.txTesterBound &&
    s.bus.txQueue.length + (if s.revokeWaits then 1 else 0) < Config.txEntries

/-- A frame joins the transmit queue (R11). -/
def State.joinQueue (s : State) (f : Frame) (blocks : Nat) : State :=
  s.onBus fun b => { b with txQueue := b.txQueue ++ [⟨f, blocks⟩] }

/-- A REVOKE_DOMAIN of the guard (R20). -/
def State.revokeFrame (s : State) (reason : ClearReason) : Frame :=
  guardFrame s.config.ownDomain .revokeDomain (revokePayload s.config.ownDomain reason)

/-- Record a clearing frame as outstanding (R35). -/
def State.addOutstanding (s : State) (c : Clearing) : State :=
  s.onMembership fun m => { m with outstanding := m.outstanding ++ [c] }

/-- Offer REVOKE_DOMAIN and record it as outstanding: it joins the queue, or waits (R13, R35). No
second frame waits (R35). While the controller is bus-off or disabled it is not queued (R13). -/
def State.offerRevoke (s : State) (reason : ClearReason) : State :=
  if s.bus.mode ≠ .enabled then s.count Counter.txDropped
  else if s.revokeWaits then s
  else if s.roomForProtocol then
    (s.joinQueue (s.revokeFrame reason) 0).addOutstanding ⟨reason, .queued⟩
  else s.addOutstanding ⟨reason, .waiting⟩

/-- A COMPLETED clearing frame loses its covering mark (R35). -/
def Clearing.uncovered (c : Clearing) : Clearing :=
  match c.progress with
  | .completed _ => { c with progress := .completed false }
  | _ => c

/-- Is an outstanding clearing frame the JOIN (R35)? -/
def Clearing.isJoin (c : Clearing) : Bool := c.reason == .start

/-- Is a clearing frame still to complete (R36)? -/
def Clearing.toComplete (c : Clearing) : Bool :=
  match c.progress with
  | .completed _ => false
  | _ => true

/-- The loss event (R36). -/
def State.lossEvent (s : State) : State :=
  match s.membership.state with
  | .offline => s
  | .joining | .resync =>
    s.onMembership fun m => { m with outstanding := m.outstanding.map Clearing.uncovered }
  | .member =>
    let s := s.onMembership fun m =>
      { m with state := .resync, outstanding := m.outstanding.map Clearing.uncovered }
    if s.membership.outstanding.any Clearing.toComplete then s else s.offerRevoke .resync

/-- Will an offered protocol frame be queued (R13)? -/
def State.takesProtocol (s : State) : Bool :=
  s.bus.mode == .enabled && !s.revokeWaits && s.roomForProtocol

/-- Offer a protocol frame other than JOIN and REVOKE_DOMAIN (R13). -/
def State.offerProtocol (s : State) (k : FrameKind) (payload : List Byte) : State :=
  if s.takesProtocol then s.joinQueue (guardFrame s.config.ownDomain k payload) 0
  else if s.bus.mode = .enabled then (s.count Counter.txDropped).lossEvent
  else s.count Counter.txDropped

/-- Will an offered status frame be queued (R14)? -/
def State.takesStatus (s : State) : Bool := s.bus.mode == .enabled && s.roomForTester

/-- Offer a status frame to a tester (R14). -/
def State.offerStatus (s : State) (k : FrameKind) (t : Tester) (payload : List Byte) : State :=
  if s.takesStatus then s.joinQueue (testerFrame s.config.ownDomain k t payload) 0
  else s.count Counter.txDropped

/-- Offer RESULT (R22). -/
def State.offerResult (s : State) (subject : FrameKind) (t : Tester) (tag reason : Byte)
    (claim : ClaimId) : State :=
  s.offerStatus .result t (resultPayload subject tag reason claim)

/-- Offer CLAIM_STATUS for a record, where its tester is ADMITTED (R114, R115). -/
def State.offerClaimStatus (s : State) (t : Tester) (id : ClaimId) (tag state reason : Byte)
    (cls : Class) (lease : Nat) : State :=
  if s.admitted t then
    s.offerStatus .claimStatus t (claimStatusPayload id tag state reason cls.code lease)
  else s

/-! ## Notices (R181, R182) -/

/-- Is a notice not a STOP notice? -/
def Notice.plain (n : Notice) : Bool := n.kind != .stop

/-- Must a notice make room before it joins (R182)? -/
def noticeNeedsRoom (q : List Notice) (n : Notice) : Bool :=
  Config.noticePlaces ≤ q.length || (n.plain && Config.noticePlain ≤ q.countP Notice.plain)

/-- Drop the oldest notice that is not STOP; where every one is STOP, the oldest that stands for no
outstanding order (R182). -/
def dropNotice (q : List Notice) : List Notice :=
  if q.any Notice.plain then q.eraseP Notice.plain else q.eraseP fun n => !n.ofOrder

/-- A notice joins the notice queue, making room first where it finds none (R182). -/
def State.queueNotice (s : State) (n : Notice) : State :=
  s.onLink fun l =>
    if noticeNeedsRoom l.notices n then { l with notices := dropNotice l.notices ++ [n], lost := true }
    else { l with notices := l.notices ++ [n] }

/-- Queue a claim notice (R135). -/
def State.claimNotice (s : State) (kind : NoticeKind) (r : Record) (reason : Byte) : State :=
  s.queueNotice ⟨kind, s.guardTime, some r.tester, none, r.id, some r.cls, reason, false⟩

/-! ## Blocks, results and captures of requests (R136, R140) -/

/-- Blocks return to the pool (R136). -/
def State.freeBlocks (s : State) (n : Nat) : State :=
  s.onMemory fun m => { m with free := m.free + n }

/-- Blocks are taken from the pool (R136). -/
def State.takeBlocks (s : State) (n : Nat) : State :=
  s.onMemory fun m => { m with free := m.free - n }

/-- A RESULT that concerns a request: offered, and posted to the counter of its reason (R140, R191). -/
def State.requestResult (s : State) (subject : FrameKind) (t : Tester) (tag reason : Byte)
    (claim : ClaimId) : State :=
  (s.offerResult subject t tag reason claim).countReason reason

/-- The RESULT of a refused request, offered to the capture as well (R140, R192). -/
def State.refuseRequest (s : State) (subject : FrameKind) (t : Tester) (tag reason : Byte)
    (claim : ClaimId) (cls : Option Class) (total : Nat) (data : List Byte) : State :=
  (s.requestResult subject t tag reason claim).offerCapture ⟨t, tag, cls, reason, total, data⟩

/-- Stage an answer at the tail of the reply list (R156). -/
def State.stageAnswer (s : State) (a : Answer) : State :=
  s.onMemory fun m => { m with replies := m.replies ++ [a] }

/-! ## The timers that run (R1) -/

/-- The gap timer of a lane, while it runs (R138). -/
def Lane.gap? : Lane → Option Timer
  | .free => none
  | .assembling a => some a.gap
  | .discarding _ _ g => some g

/-- A timer that runs, with the command that is its expiry. -/
def timerOf (c : Instr) (t : Option Timer) : List (Instr × Timer) := t.toList.map fun t => (c, t)

/-- The timers that run for one tester: validity, quiet and gap (R54, R55, R138). -/
def State.testerTimers (s : State) (t : Tester) : List (Instr × Timer) :=
  timerOf (.validityTimerExpiry t) ((s.ticket t).map fun k => k.validity) ++
    timerOf (.quietTimerExpiry t) ((s.ticket t).map fun k => k.quiet) ++
    timerOf (.gapTimerExpiry t) s.memory.lanes[t].gap?

/-- The timers that run for one claim record: window, hold and lease (R76, R77). -/
def Record.timers (r : Record) : List (Instr × Timer) :=
  timerOf (.windowTimerExpiry r.id) (r.sponsor.bind fun p => p.window) ++
    timerOf (.holdTimerExpiry r.id) r.holdTimer ++
    timerOf (.leaseTimerExpiry r.id) (r.sponsor.bind fun p => p.leaseTimer)

/-- The timers that run in the delivery unit and the fence unit: QUEUE_WAIT, SERVICE_LIMIT and
STOP_LIMIT (R144, R150, R160). -/
def State.serviceTimers (s : State) : List (Instr × Timer) :=
  s.delivery.queue.map (fun e => (.queueWaitExpiry e.tester e.tag, e.wait)) ++
    timerOf .serviceLimitExpiry (s.delivery.service.bind fun v => v.limit) ++
    timerOf .stopLimitExpiry (s.fence.stop.map fun o => o.limit)

/-- Every timer that runs, with the command that is its expiry: the loader's wait while STARTING (R27),
the timers of every unit once the image is accepted, and none while RESET is asserted (R25). -/
def State.runningTimers (s : State) : List (Instr × Timer) :=
  match s.phase, s.loader with
  | .starting, .waiting _ t => [(.loaderRetryWaitExpiry, t)]
  | .running, _ =>
    allTesters.flatMap s.testerTimers ++ s.serviceTimers ++ s.hold.view.flatMap Record.timers
  | _, _ => []

/-- Does no running timer end sooner (R1; log entry 3)? -/
def State.soonest (s : State) (t : Timer) : Bool :=
  s.runningTimers.all fun x => t.remaining s.guardTime ≤ x.2.remaining s.guardTime

/-- The expiry that guard time has reached: of several, the first of the list (R1; log entry 2). -/
def State.dueExpiry (s : State) : Option Instr :=
  (s.runningTimers.find? fun x => x.2.remaining s.guardTime == 0).map fun x => x.1

/-! ## The receive FIFO (R4, R10) -/

/-- The frame whose passage comes next: the oldest of the FIFO, once the image is accepted (R4, R26). -/
def State.head (s : State) : Option RxEntry :=
  if s.phase = .running then s.bus.rxFifo.head? else none

/-- The frame at the head leaves the FIFO (R4). -/
def State.popHead (s : State) : State := s.onBus fun b => { b with rxFifo := b.rxFifo.tail }

/-- Quiet refresh: the quiet timer of an ADMITTED entry restarts (R8, R55). -/
def State.quietRefresh (s : State) (t : Tester) : State :=
  match s.admissions[t] with
  | ⟨some k, e⟩ =>
    s.setAdmission t ⟨some { k with quiet := s.startTimer (1000 * s.config.timing.testerQuiet) }, e⟩
  | ⟨none, _⟩ => s

/-- The passage of a guard-to-guard frame of a kind, under a row for some of its payloads: a frame too
short is dropped and counted (R8), another goes to its block with its sender's domain. A head of
another kind or for another row is left (log entry 5). -/
def State.guardPassage (s : State) (k : FrameKind) (row : RxEntry → Bool)
    (act : Domain → RxEntry → State → State) : State :=
  match s.head with
  | none => s
  | some e =>
    match guardSender s.config e.frame with
    | none => s
    | some d =>
      if e.frame.kind? = some k && row e then
        if e.frame.tooShort k then s.popHead.count Counter.foreignFrames else act d e s.popHead
      else s

/-- The passage of a tester-to-guard frame of a kind, targeted as R7 allows, under a row for some of
its payloads: quiet refresh; then a frame too short is dropped and counted (R8), and another goes to
its block (log entry 5). -/
def State.testerPassage (s : State) (k : FrameKind) (row : List Byte → Bool)
    (act : Tester → List Byte → State → State) : State :=
  match s.head with
  | none => s
  | some e =>
    match testerSender s.config k e with
    | none => s
    | some t =>
      if row e.frame.payload then
        let s := s.popHead.quietRefresh t
        if e.frame.tooShort k then s.count Counter.foreignFrames else act t e.frame.payload s
      else s

/-- Every payload of a kind goes under the one row it has. -/
def everyPayload : List Byte → Bool := fun _ => true

end Sys2Proof.Machine
end

