-- ==== Sys2Proof/Machine/Slot.lean ====
section
/-!
DEFINITION. Requests leaving the delivery unit: removals from the delivery queue (R145) and a request
leaving the service slot (R153 to R155).
-/

namespace Sys2Proof.Machine

/-- What becomes of an entry taken from the delivery queue: its blocks return, and its tester is
answered where the rule gives a reason (R145, R140). -/
def State.entryGone (s : State) (reason : Option Byte) (e : QueueEntry) : State :=
  let s := s.freeBlocks (blocksFor e.data.length)
  match reason with
  | none => s
  | some r => s.refuseRequest .reqFirst e.tester e.tag r e.claim (some e.cls) e.data.length e.data

/-- Remove entries from the delivery queue; the others keep their order (R144, R145). Several removed at
one event are answered oldest first, and so offered to the capture: the model's choice (log entry 31). -/
def State.removeEntries (s : State) (p : QueueEntry → Bool) (reason : Option Byte) : State :=
  (s.delivery.queue.filter p).foldl (fun s e => s.entryGone reason e)
    (s.onDelivery fun d => { d with queue := d.queue.filter fun e => !p e })

/-- Change the record of the service slot. -/
def State.updateService (s : State) (f : Service → Service) : State :=
  s.onDelivery fun d => { d with service := d.service.map f }

/-- The request leaves the service slot: its own blocks return, and the operation state of its claim
returns to IDLE for an effecting request, where the record stands (R153, R154). -/
def State.emptySlot (s : State) (v : Service) : State :=
  let s := (s.freeBlocks (blocksFor v.data.length)).onDelivery fun d => { d with service := none }
  if v.cls.effecting then s.setOperation v.claim .idle else s

/-- The request leaves the service slot with its answer staging discarded (R154, R155). -/
def State.leaveSlot (s : State) (v : Service) : State :=
  (s.emptySlot v).freeBlocks (blocksFor v.staged.length)

end Sys2Proof.Machine
end

