-- ==== Sys2Proof/Machine/StopOrders.lean ====
section
/-!
DEFINITION. The fence unit's shared operations: incidents (R167), the stop order from issue to
settling or abandonment (R160 to R166), fence causes and the entry into FENCED (R170, R171); and what
the delivery unit does when a claim changes (R120).
-/

namespace Sys2Proof.Machine

/-! ## Incidents (R167) -/

/-- Write an incident: an OPEN one in CURRENT is overtaken and moves to PRIOR (R167). -/
def Fence.writeIncident (f : Fence) (i : Incident) : Fence :=
  match f.current with
  | some c =>
    if c.status = .opened then
      { f with current := some i, prior := some { c with status := .overtaken } }
    else { f with current := some i }
  | none => { f with current := some i }

/-- Write an incident (R167). -/
def State.writeIncident (s : State) (i : Incident) : State := s.onFence fun f => f.writeIncident i

/-- Change the incident in CURRENT. -/
def State.updateIncident (s : State) (f : Incident → Incident) : State :=
  s.onFence fun x => { x with current := x.current.map f }

/-! ## Stop orders -/

/-- The request in the service slot as a stop order of a cause (R160). -/
def State.stopOrderFor (s : State) (v : Service) (cause : StopCause) : StopOrder :=
  ⟨v.tester, v.tag, v.claim, v.cls, cause, s.startTimer s.config.timing.stopLimit, false⟩

/-- The steps of R161, in their order. -/
def State.issueStopFor (s : State) (v : Service) (cause : StopCause) : State :=
  let s := s.updateService fun v => { v with limit := none }
  let s := s.onFence fun f => { f with stop := some (s.stopOrderFor v cause) }
  let s := s.setOperation v.claim .stopping
  let s := s.writeIncident
    ⟨.stop cause, some v.claim, some v.tester, some v.tag, some v.cls, s.guardTime, .opened, none⟩
  let s := s.queueNotice
    ⟨.stop, s.guardTime, some v.tester, some v.tag, v.claim, some v.cls, cause.code, true⟩
  s.post .incident (some v.tester) (some v.claim) (some v.cls) cause.code

/-- A stop order is asked for: it is issued for an effecting request in the slot while none is
outstanding (R160). -/
def State.askStop (s : State) (cause : StopCause) : State :=
  match s.delivery.service, s.fence.stop with
  | some v, none => if v.cls.effecting then s.issueStopFor v cause else s
  | _, _ => s

/-- The RESULT after a settled stop: its reason and subject, by the order's cause (R164). -/
def settledResult : StopCause → Option (Byte × FrameKind)
  | .endClaim | .breakClaim | .busLoss => some (Reason.stopped, .reqFirst)
  | .abort => some (Reason.aborted, .abortReq)
  | .serviceTimeout => none

/-- Trail detail of a settled stop (R188). -/
def settleCode (o : IncidentOutcome) : Byte := o.code

/-- The request as an order that ends leaves it: orphaned where its tester's admission ended before the
issue or while the order was outstanding (R59, R161; log entry 33). -/
def StopOrder.release (o : StopOrder) (v : Service) : Service :=
  { v with orphaned := v.orphaned || o.testerGone }

/-- Withdraw the STOP notice of the outstanding order where it is unread (R164, R182). -/
def State.withdrawStopNotice (s : State) : State :=
  s.onLink fun l => { l with notices := l.notices.filter fun n => !n.ofOrder }

/-- A stop settles: the steps of R164, in their order; no RESULT for a request orphaned by now (R59). -/
def State.settleStop (s : State) (o : StopOrder) (v : Service) (outcome : IncidentOutcome) : State :=
  let v := o.release v
  let s := s.onFence fun f => { f with stop := none }
  let s := s.withdrawStopNotice
  let s := s.updateIncident fun i => { i with status := .closed, outcome := some outcome }
  let s := s.onFence fun f => { f with marker := false }
  let s := s.post .stopped (some o.tester) (some o.claim) (some o.cls) (settleCode outcome)
  let s := s.leaveSlot v
  match settledResult o.cause with
  | some (reason, subject) =>
    if v.orphaned then s else s.requestResult subject o.tester o.tag reason o.claim
  | none => s

/-- The STOP notice of an abandoned order stays, and stands for no outstanding order any more (R166,
R182). -/
def State.leaveStopNotice (s : State) : State :=
  s.onLink fun l => { l with notices := l.notices.map fun n => { n with ofOrder := false } }

/-- The outstanding stop order is abandoned; no RESULT for a request orphaned by now (R59, R166). -/
def State.abandonStop (s : State) : State :=
  match s.fence.stop, s.delivery.service with
  | some o, some v =>
    let v := o.release v
    let s := s.onFence fun f => { f with stop := none }
    let s := s.updateIncident fun i =>
      { i with outcome := i.outcome.orElse fun _ => some .abandoned }
    let s := s.leaveStopNotice
    let s := s.leaveSlot v
    if v.orphaned || o.cause == .serviceTimeout then s
    else s.requestResult .reqFirst o.tester o.tag Reason.fenced o.claim
  | _, _ => s

/-! ## Fence causes and the entry into FENCED -/

/-- The FENCE incident of a cause without further fields (R167). -/
def State.fenceIncident (s : State) (cause : FenceCause) : Incident :=
  ⟨.fence cause, none, none, none, none, s.guardTime, .opened, none⟩

/-- Step 5 of R171: an effecting request in the slot with no stop outstanding is discarded. -/
def State.discardEffecting (s : State) : State :=
  match s.delivery.service with
  | none => s
  | some v =>
    if v.cls.effecting then
      let s := s.leaveSlot v
      if v.orphaned then s else s.requestResult .reqFirst v.tester v.tag Reason.fenced v.claim
    else s

/-- The fence unit asks for REVOKE_DOMAIN(own, REVOKED) (R39). -/
def State.requestRevoke (s : State) : State :=
  match s.membership.state with
  | .offline => s
  | _ =>
    if s.revokeWaits then
      s.onMembership fun m =>
        { m with outstanding := m.outstanding.map fun c =>
            if c.progress = .waiting then { c with reason := .revoked } else c }
    else s.offerRevoke .revoked

/-- The domain enters FENCED: the steps of R171, in their order (step 4, FAULT, by the line's level). -/
def State.enterFenced (s : State) (cause : FenceCause) (i : Incident) : State :=
  let s := s.onFence fun f => { f with fenced := true, causes := f.causes ||| cause.bit }
  let s := s.abandonStop
  let s := s.writeIncident i
  let s := s.discardEffecting
  let s := s.removeEntries (fun e => e.cls.effecting) (some Reason.fenced)
  let s := s.requestRevoke
  let s := s.queueNotice ⟨.fenced, s.guardTime, none, none, noClaim, none, cause.code, false⟩
  s.postFenceEntry cause

/-- Is a cause in the fence cause set? -/
def Fence.hasCause (f : Fence) (cause : FenceCause) : Bool := f.causes &&& cause.bit != 0

/-- A fence cause is taken, with its FENCE incident (R170). -/
def State.takeFenceCause (s : State) (cause : FenceCause) (i : Incident) : State :=
  if !s.fence.fenced then s.enterFenced cause i
  else if s.fence.hasCause cause then s
  else
    let s := s.onFence fun f => { f with causes := f.causes ||| cause.bit }
    let s := s.writeIncident i
    s.post .fenced none none none cause.code

/-- A cause leaves the fence cause set (R169). -/
def State.dropFenceCause (s : State) (cause : FenceCause) : State :=
  s.onFence fun f => { f with causes := f.causes &&& ~~~cause.bit }

/-! ## A claim's change handed to the delivery unit (R120) -/

/-- The delivery unit acts on a claim's requests: a stop order for its effecting request in service,
where the change orders one, and its queued entries answered (R120). -/
def State.handClaimChange (s : State) (id : ClaimId) (stop : Option StopCause) (reason : Byte) : State :=
  let s :=
    match stop, s.delivery.service with
    | some cause, some v => if v.claim = id then s.askStop cause else s
    | _, _ => s
  s.removeEntries (fun e => e.claim == id) (some reason)

end Sys2Proof.Machine
end

