-- ==== Sys2Proof/Machine/Ending.lean ====
section
/-!
DEFINITION. The hold unit's shared operations: the sponsor's decision (R105), the decision to end
(R121), the report of an ending (R126, R134), the removals by clearing frames (R133), and the report of
a negotiation settled against the claim (R111, R113, R131).
-/

namespace Sys2Proof.Machine

/-- CLAIM_STATUS for a record homed here, with a state code and reason (R114, R115). -/
def State.reportClaim (s : State) (r : Record) (p : Sponsor) (state reason : Byte) : State :=
  s.offerClaimStatus r.tester r.id p.tag state reason r.cls p.lease

/-- The sponsor decides: mark set, window stopped, VERDICT offered (R105). -/
def State.decideClaim (s : State) (id : ClaimId) (outcome : VerdictOutcome) (reason : Byte) : State :=
  let s := s.updateSponsor id fun p => { p with decided := true, window := none }
  s.offerProtocol .verdict (verdictPayload id outcome reason)

/-- The home guard decides to end a claim, at most once: ENDING set, lease stopped, an undecided
negotiation abandoned, END offered (R121). -/
def State.decideEnd (s : State) (id : ClaimId) (reason : Byte) : State :=
  match s.standing id with
  | .here r p =>
    if p.ending then s
    else
      let s := s.updateSponsor id fun q =>
        { q with
          ending := true
          leaseTimer := none
          window := if undecided r p then none else q.window }
      s.offerProtocol .endClaim (claimReasonPayload id reason)
  | _ => s

/-- What the home guard does for a removed record of its own: the steps of R126, in their order. -/
def State.reportEnding (s : State) (r : Record) (p : Sponsor) (reason : Byte) : State :=
  let s := s.handClaimChange r.id (some .endClaim) Reason.claimNotHeld
  let s := s.claimNotice .claimEnd r reason
  let s := s.reportClaim r p statusEnded reason
  s.post .ended (some r.tester) (some r.id) (some r.cls) reason

/-- A record ends: it is removed, and reported where it is homed here (R125, R126, R133, R134). -/
def State.endRecord (s : State) (r : Record) (reason : Byte) : State :=
  let s := s.removeRecord r.id
  match r.sponsor with
  | some p => s.reportEnding r p reason
  | none => s

/-- A clearing frame of a domain removes, in ascending claim id, every record whose scope holds it; the
guard's own removes every record (R133). -/
def State.clearRecords (s : State) (d : Domain) (reason : Byte) : State :=
  (s.hold.view.filter fun r => d == s.config.ownDomain || inSet d r.scope).foldl
    (fun s r => s.endRecord r reason) s

/-- A PENDING record homed here is refused by a VERDICT or a CANCEL: report, count, trail entry with the
claim id where the rule names it, and its queued entries answered (R111, R113). -/
def State.reportRefusal (s : State) (r : Record) (p : Sponsor) (reason : Byte)
    (entryClaim : Option ClaimId) : State :=
  let s := s.reportClaim r p statusRefused reason
  let s := s.count Counter.claimRefused
  let s := s.post .refused none entryClaim none reason
  s.handClaimChange r.id none Reason.claimNotHeld

/-- A RESUMING record homed here is refused its resumption: report, count and trail entry (R111, R113,
R131). -/
def State.reportNotResumed (s : State) (r : Record) (p : Sponsor) (reason : Byte) : State :=
  let s := s.reportClaim r p ClaimState.suspended.code reason
  let s := s.count Counter.claimRefused
  s.post .refused none none none reason

/-- A record becomes SUSPENDED: consented cleared, hold timer stopped, and the window timer with the
negotiation (R76, R106, R111, R113, R129). -/
def Record.suspend (r : Record) : Record :=
  { r with
    state := .suspended
    consented := false
    holdTimer := none
    sponsor := r.sponsor.map fun p => { p with window := none } }

end Sys2Proof.Machine
end

