-- ==== Sys2Proof/Machine/Flags.lean ====
section
/-!
DEFINITION. What is computed from the state: the domain mask level, eligibility and the arbiter's
choice (R62, R146 to R148), the service-wanted indication (R147), and the lines FAULT (R168) and ATTN
(R187), which every command leaves up to date.
-/

namespace Sys2Proof.Machine

/-- The domain mask level: the greatest mask level of the HELD records homed here, 0 without one (R62,
R90). -/
def State.domainMask (s : State) : Nat :=
  s.hold.view.foldl (init := 0) fun m r =>
    if r.state = .held ∧ r.sponsor.isSome then max m (s.config.maskLevel r.cls) else m

/-- May an entry that names a claim be handed over, by its claim (R146, second condition)? -/
def Standing.ready : Standing → Bool
  | .here r p => r.state == .held && !p.ending && (!r.paced || p.credit)
  | _ => false

/-- Does an entry name a HELD claim (R146, third condition)? -/
def Standing.isHeld : Standing → Bool
  | .here r _ => r.state == .held
  | .elsewhere r => r.state == .held
  | .absent => false

/-- Is a delivery-queue entry eligible for hand-over (R146)? -/
def State.eligible (s : State) (e : QueueEntry) : Bool :=
  (s.delivery.service.isNone && s.fence.stop.isNone) &&
  (e.claim == noClaim || (s.standing e.claim).ready) &&
  ((e.claim != noClaim && (s.standing e.claim).isHeld) || s.domainMask < e.level) &&
  (!e.cls.effecting || !s.fence.fenced)

/-- The better of a choice so far and a later entry: the later one only by a higher level (R148). -/
def betterEntry (best : Option QueueEntry) (e : QueueEntry) : Option QueueEntry :=
  match best with
  | none => some e
  | some b => if b.level < e.level then some e else some b

/-- The arbiter's choice: among the eligible entries the highest delivery level, and among equal levels
the one that joined the queue earlier (R144, R148). -/
def State.arbiter (s : State) : Option QueueEntry :=
  (s.delivery.queue.filter s.eligible).foldl betterEntry none

/-- The service-wanted indication: at least one entry is eligible (R147). -/
def State.serviceWanted (s : State) : Bool := s.delivery.queue.any s.eligible

/-- FAULT: asserted while FENCED or UNCONFIGURED (R168, R25, R26, R31). -/
def State.faultLevel (s : State) : Bool := s.fence.fenced || s.phase == .unconfigured

/-- ATTN: asserted while the image is accepted, and a notice waits or service is wanted (R187). -/
def State.attnLevel (s : State) : Bool :=
  s.phase == .running && (!s.link.notices.isEmpty || s.serviceWanted)

/-- Judge the queue again and drive the two output lines (R147, R168, R187). -/
def State.drive (s : State) : State :=
  { s with
    delivery := { s.delivery with serviceWanted := s.serviceWanted }
    pins := { s.pins with fault := s.faultLevel, attn := s.attnLevel } }

/-- The end of every command: its effects stand, and the indication and the lines follow them. -/
def finish (s : State) : Host.Outcome State Fault Refusal := .next s.drive

end Sys2Proof.Machine
end

