-- ==== Sys2Proof/Machine/TicketCheck.lean ====
section
/-!
DEFINITION. The check unit's keyed message check (R47): the CMAC of the AES-128 block cipher.
PRESUMED (log entry 26): R47 names the two algorithms; their definitions are the published standards.
A block is a list of 16 bytes in the order the algorithm takes them.
-/

namespace Sys2Proof.Machine

/-! The substitution table of AES, one row for each upper half-byte. -/

def sboxRow0 : List Byte :=
  [0x63, 0x7C, 0x77, 0x7B, 0xF2, 0x6B, 0x6F, 0xC5, 0x30, 0x01, 0x67, 0x2B, 0xFE, 0xD7, 0xAB, 0x76]
def sboxRow1 : List Byte :=
  [0xCA, 0x82, 0xC9, 0x7D, 0xFA, 0x59, 0x47, 0xF0, 0xAD, 0xD4, 0xA2, 0xAF, 0x9C, 0xA4, 0x72, 0xC0]
def sboxRow2 : List Byte :=
  [0xB7, 0xFD, 0x93, 0x26, 0x36, 0x3F, 0xF7, 0xCC, 0x34, 0xA5, 0xE5, 0xF1, 0x71, 0xD8, 0x31, 0x15]
def sboxRow3 : List Byte :=
  [0x04, 0xC7, 0x23, 0xC3, 0x18, 0x96, 0x05, 0x9A, 0x07, 0x12, 0x80, 0xE2, 0xEB, 0x27, 0xB2, 0x75]
def sboxRow4 : List Byte :=
  [0x09, 0x83, 0x2C, 0x1A, 0x1B, 0x6E, 0x5A, 0xA0, 0x52, 0x3B, 0xD6, 0xB3, 0x29, 0xE3, 0x2F, 0x84]
def sboxRow5 : List Byte :=
  [0x53, 0xD1, 0x00, 0xED, 0x20, 0xFC, 0xB1, 0x5B, 0x6A, 0xCB, 0xBE, 0x39, 0x4A, 0x4C, 0x58, 0xCF]
def sboxRow6 : List Byte :=
  [0xD0, 0xEF, 0xAA, 0xFB, 0x43, 0x4D, 0x33, 0x85, 0x45, 0xF9, 0x02, 0x7F, 0x50, 0x3C, 0x9F, 0xA8]
def sboxRow7 : List Byte :=
  [0x51, 0xA3, 0x40, 0x8F, 0x92, 0x9D, 0x38, 0xF5, 0xBC, 0xB6, 0xDA, 0x21, 0x10, 0xFF, 0xF3, 0xD2]
def sboxRow8 : List Byte :=
  [0xCD, 0x0C, 0x13, 0xEC, 0x5F, 0x97, 0x44, 0x17, 0xC4, 0xA7, 0x7E, 0x3D, 0x64, 0x5D, 0x19, 0x73]
def sboxRow9 : List Byte :=
  [0x60, 0x81, 0x4F, 0xDC, 0x22, 0x2A, 0x90, 0x88, 0x46, 0xEE, 0xB8, 0x14, 0xDE, 0x5E, 0x0B, 0xDB]
def sboxRowA : List Byte :=
  [0xE0, 0x32, 0x3A, 0x0A, 0x49, 0x06, 0x24, 0x5C, 0xC2, 0xD3, 0xAC, 0x62, 0x91, 0x95, 0xE4, 0x79]
def sboxRowB : List Byte :=
  [0xE7, 0xC8, 0x37, 0x6D, 0x8D, 0xD5, 0x4E, 0xA9, 0x6C, 0x56, 0xF4, 0xEA, 0x65, 0x7A, 0xAE, 0x08]
def sboxRowC : List Byte :=
  [0xBA, 0x78, 0x25, 0x2E, 0x1C, 0xA6, 0xB4, 0xC6, 0xE8, 0xDD, 0x74, 0x1F, 0x4B, 0xBD, 0x8B, 0x8A]
def sboxRowD : List Byte :=
  [0x70, 0x3E, 0xB5, 0x66, 0x48, 0x03, 0xF6, 0x0E, 0x61, 0x35, 0x57, 0xB9, 0x86, 0xC1, 0x1D, 0x9E]
def sboxRowE : List Byte :=
  [0xE1, 0xF8, 0x98, 0x11, 0x69, 0xD9, 0x8E, 0x94, 0x9B, 0x1E, 0x87, 0xE9, 0xCE, 0x55, 0x28, 0xDF]
def sboxRowF : List Byte :=
  [0x8C, 0xA1, 0x89, 0x0D, 0xBF, 0xE6, 0x42, 0x68, 0x41, 0x99, 0x2D, 0x0F, 0xB0, 0x54, 0xBB, 0x16]

/-- The substitution table as one list of 256 bytes. -/
def sboxTable : List Byte :=
  sboxRow0 ++ sboxRow1 ++ sboxRow2 ++ sboxRow3 ++ sboxRow4 ++ sboxRow5 ++ sboxRow6 ++ sboxRow7 ++
  sboxRow8 ++ sboxRow9 ++ sboxRowA ++ sboxRowB ++ sboxRowC ++ sboxRowD ++ sboxRowE ++ sboxRowF

/-- The substitution of one byte. -/
def subByte (b : Byte) : Byte := sboxTable.getD b.toNat 0#8

/-- Exclusive or of two blocks, byte by byte. -/
def xorBytes (x y : List Byte) : List Byte := List.zipWith (· ^^^ ·) x y

/-- Multiplication by two in the field of AES. -/
def doubleByte (b : Byte) : Byte := if b.msb then (b <<< 1) ^^^ 0x1B#8 else b <<< 1

/-- The byte that each place of a block takes in the row shift (the block is column by column). -/
def shiftRows (b : List Byte) : List Byte :=
  [0, 5, 10, 15, 4, 9, 14, 3, 8, 13, 2, 7, 12, 1, 6, 11].map (byteAt b)

/-- One row of the column mixing: 2a + 3b + c + d. -/
def mixByte (a b c d : Byte) : Byte := doubleByte a ^^^ (doubleByte b ^^^ b) ^^^ c ^^^ d

/-- The column mixing of a whole block. -/
def mixColumns : List Byte → List Byte
  | a :: b :: c :: d :: rest =>
    mixByte a b c d :: mixByte b c d a :: mixByte c d a b :: mixByte d a b c :: mixColumns rest
  | _ => []

/-- The next round key from a round key and the round's constant. -/
def nextRoundKey (k : List Byte) (rcon : Byte) : List Byte :=
  let t := [subByte (byteAt k 13) ^^^ rcon, subByte (byteAt k 14), subByte (byteAt k 15),
    subByte (byteAt k 12)]
  let w0 := xorBytes (k.take 4) t
  let w1 := xorBytes ((k.drop 4).take 4) w0
  let w2 := xorBytes ((k.drop 8).take 4) w1
  let w3 := xorBytes ((k.drop 12).take 4) w2
  w0 ++ w1 ++ w2 ++ w3

/-- The rounds after the first key addition: the list holds the round constants still to come; the
last round has no column mixing. -/
def aesRounds : List Byte → List Byte → List Byte → List Byte
  | [], _, b => b
  | [rcon], k, b => xorBytes (shiftRows (b.map subByte)) (nextRoundKey k rcon)
  | rcon :: rcons, k, b =>
    let k' := nextRoundKey k rcon
    aesRounds rcons k' (xorBytes (mixColumns (shiftRows (b.map subByte))) k')

/-- AES-128 encryption of one block. -/
def aesEncrypt (key block : List Byte) : List Byte :=
  aesRounds [0x01, 0x02, 0x04, 0x08, 0x10, 0x20, 0x40, 0x80, 0x1B, 0x36] key (xorBytes block key)

/-- A block of zeros. -/
def zeroBlock : List Byte := List.replicate 16 0#8

/-- Doubling of a block in the field of 128 bits, as the subkeys need it. -/
def doubleBlock (b : List Byte) : List Byte :=
  let shifted := List.zipWith (fun (x y : Byte) => (x <<< 1) ||| (y >>> 7)) b (b.drop 1 ++ [0#8])
  if (byteAt b 0).msb then
    shifted.take 15 ++ [byteAt shifted 15 ^^^ 0x87#8]
  else shifted

/-- The chain over the message: the first argument bounds the number of blocks. -/
def cmacChain (key k1 k2 : List Byte) : Nat → List Byte → List Byte → List Byte
  | 0, x, _ => x
  | n + 1, x, msg =>
    if msg.length < 16 then
      let padded := msg ++ 0x80#8 :: List.replicate (15 - msg.length) 0#8
      aesEncrypt key (xorBytes x (xorBytes padded k2))
    else if msg.length = 16 then
      aesEncrypt key (xorBytes x (xorBytes msg k1))
    else
      cmacChain key k1 k2 n (aesEncrypt key (xorBytes x (msg.take 16))) (msg.drop 16)

/-- CMAC over AES-128: 16 bytes, untruncated (R47). -/
def cmac (key msg : List Byte) : List Byte :=
  let k1 := doubleBlock (aesEncrypt key zeroBlock)
  cmacChain key k1 (doubleBlock k1) (msg.length / 16 + 1) zeroBlock msg

/-- Does a ticket pass the keyed check: is the check over offsets 0 to 19 equal to the check value at
offsets 20 to 35, byte for byte (R47)? -/
def ticketPasses (key ticket : List Byte) : Bool :=
  cmac key (ticket.take 20) == (ticket.drop 20).take 16

end Sys2Proof.Machine
end

