-- ==== Sys2Proof/Machine/Admitting.lean ====
section
/-!
DEFINITION. Admitting testers: the ticket's checks (R46 to R52), LEAVE (R56), the end of an admission
(R57 to R60), and the validity and quiet timers (R54, R55).
-/

namespace Sys2Proof.Machine

/-! ## Judging an ADMIT (R46 to R52) -/

/-- The serial of a ticket (R21). -/
def ticketSerial (p : List Byte) : BitVec 32 := word32At p 1

/-- The validity of a ticket in minutes (R21). -/
def ticketMinutes (p : List Byte) : Nat := (word16At p 18).toNat

/-- The ticket body: offsets 0 to 19 (R45). -/
def ticketBody (p : List Byte) : List Byte := takeZero p 0 20

/-- The format is 1 and the validity is 1 to 1440 (R48, first check). -/
def ticketFormOk (p : List Byte) : Bool :=
  byteAt p 0 == 1#8 && 1 ≤ ticketMinutes p && ticketMinutes p ≤ 1440

/-- The first six checks of R48, in their order. -/
def ticketRefusal (c : Settings) (t : Tester) (p : List Byte) : Option Byte :=
  if !ticketFormOk p then some Reason.badTicket
  else if !ticketPasses c.checkKey (takeZero p 0 36) then some Reason.badTicket
  else if word32At p 9 != c.vehicleId then some Reason.wrongVehicle
  else if byteAt p 13 != testerAddress t then some Reason.wrongTester
  else if c.withdrawn.contains (ticketSerial p) then some Reason.withdrawn
  else if !inSet c.ownDomain (domainSetAt p 16) then some Reason.notForDomain
  else none

/-- The seventh check: the ticket against the source's entry (R49). -/
def entryResult (entry : Option Ticket) (p : List Byte) : Byte :=
  match entry with
  | none => Reason.ok
  | some k =>
    if k.serial.toNat < (ticketSerial p).toNat then Reason.ok
    else if ticketBody p = k.body then Reason.already
    else Reason.staleTicket

/-- The result of an ADMIT (R48, R49). -/
def State.judgeTicket (s : State) (t : Tester) (p : List Byte) : Byte :=
  match ticketRefusal s.config t p with
  | some r => r
  | none => entryResult (s.ticket t) p

/-- The ticket fields and timers that an OK result writes (R50, R54, R55). -/
def State.newTicket (s : State) (p : List Byte) : Ticket where
  body := ticketBody p
  serial := ticketSerial p
  workshop := word32At p 5
  classes := classSetAt p 14
  domains := domainSetAt p 16
  validity := s.startTimer (60000 * ticketMinutes p)
  quiet := s.startTimer (1000 * s.config.timing.testerQuiet)

/-- An OK result writes the entry and posts ADMITTED: detail 0x01 for a replacement (R50). -/
def State.admitTester (s : State) (t : Tester) (p : List Byte) : State :=
  let detail := flag8 (s.admitted t)
  let s := s.setAdmission t ⟨some (s.newTicket p), s.admissions[t].lastEnd⟩
  s.post .admitted (some t) none none detail

/-- A refusal is counted and posted (R52). -/
def State.admitRefused (s : State) (t : Tester) (reason : Byte) : State :=
  (s.count Counter.admitRefused).post .admitRefused (some t) none none reason

/-- The effect of an ADMIT's result (R49, R50, R52). -/
def State.applyTicket (s : State) (t : Tester) (p : List Byte) (result : Byte) : State :=
  if result = Reason.ok then s.admitTester t p
  else if result = Reason.already then s
  else s.admitRefused t result

/-- The passage of an ADMIT: judged, and answered by one ADMIT_ACK (R48). -/
def State.passAdmit (s : State) (t : Tester) (p : List Byte) : State :=
  let result := s.judgeTicket t p
  let s := s.applyTicket t p result
  s.offerStatus .admitAck t (admitAckPayload result (ticketSerial p))

/-- ADMIT_PASSAGE (R48). -/
def execAdmitPassage (s : State) : Host.Outcome State Fault Refusal :=
  finish (s.testerPassage .admitTicket everyPayload fun t p s => s.passAdmit t p)

/-! ## The end of an admission (R57 to R60) -/

/-- The tester's lane is emptied, its blocks returned (R58). -/
def State.emptyLane (s : State) (t : Tester) : State :=
  match s.memory.lanes[t] with
  | .assembling a => (s.freeBlocks (blocksFor a.total)).setLane t .free
  | _ => s.setLane t .free

/-- The tester's request is orphaned under a stop order: the order keeps the marking (R59, R161). -/
def StopOrder.orphan (t : Tester) (o : StopOrder) : StopOrder :=
  if o.tester = t then { o with testerGone := true } else o

/-- The tester's request in service is marked orphaned (R59). Under an outstanding stop order the request's
mark does not change (R161): the order keeps the marking, and the request has it as the order ends, before
its RESULT is judged (`StopOrder.release`, log entry 33). -/
def State.orphanService (s : State) (t : Tester) : State :=
  match s.fence.stop with
  | some o => s.onFence fun f => { f with stop := some (o.orphan t) }
  | none => s.updateService fun v => if v.tester = t then { v with orphaned := true } else v

/-- The tester's staged answers are discarded; blocks assigned to segments already queued stay (R59,
R157). -/
def State.discardAnswers (s : State) (t : Tester) : State :=
  s.onMemory fun m =>
    { m with
      free := m.free + ((m.replies.filter fun a => a.tester == t).map Answer.blocks).sum
      replies := m.replies.filter fun a => a.tester != t }

/-- END(GONE) is decided for every claim of the tester homed here, in ascending claim id (R60). -/
def State.endClaimsOf (s : State) (t : Tester) : State :=
  (s.hold.view.filter fun r => r.sponsor.isSome && r.tester == t).foldl
    (fun s r => s.decideEnd r.id Reason.gone) s

/-- An admission ends (R57 to R60). -/
def State.endAdmission (s : State) (t : Tester) (cause : EndCause) : State :=
  if s.admitted t then
    let s := s.setAdmission t ⟨none, cause⟩
    let s := s.emptyLane t
    let s := s.removeEntries (fun e => e.tester == t) none
    let s := s.orphanService t
    let s := s.discardAnswers t
    s.endClaimsOf t
  else s

/-- LEAVE_PASSAGE (R56). -/
def execLeavePassage (s : State) : Host.Outcome State Fault Refusal :=
  finish (s.testerPassage .leave everyPayload fun t _ s => s.endAdmission t .left)

/-- The expiry of a running timer: guard time reaches its end, then its effect. It cannot take place
before a running timer that ends sooner has expired (R1; log entry 3), nor while RESET is asserted
(R25). -/
def State.expire (s : State) (timer : Option Timer) (act : State → State) : State :=
  match s.phase, timer with
  | .running, some t => if s.soonest t then act (s.reachDue t) else s
  | _, _ => s

/-- VALIDITY_TIMER_EXPIRY (R54). -/
def execValidityTimerExpiry (tester : Tester) (s : State) : Host.Outcome State Fault Refusal :=
  finish (s.expire ((s.ticket tester).map fun k => k.validity) fun s =>
    s.endAdmission tester .ticketExpired)

/-- QUIET_TIMER_EXPIRY (R55). -/
def execQuietTimerExpiry (tester : Tester) (s : State) : Host.Outcome State Fault Refusal :=
  finish (s.expire ((s.ticket tester).map fun k => k.quiet) fun s => s.endAdmission tester .quiet)

end Sys2Proof.Machine
end

