-- ==== Sys2Proof/Machine/Audit.lean ====
section
/-!
DEFINITION. Audit queries: their judgement (R193), the answers (R91, R194) and the effects of THAW,
COUNTERS and CAPTURE (R190 to R192).
-/

namespace Sys2Proof.Machine

/-! ## The answers (R194) -/

/-- One tester's entry in the STATUS answer: 14 bytes (R45, R194). -/
def State.testerStatus (s : State) (t : Tester) : List Byte :=
  match s.ticket t with
  | some k =>
    [0x01#8] ++ bytes32 k.serial ++ bytes32 k.workshop ++
      nat32 (k.validity.remainingSeconds s.guardTime) ++ [s.admissions[t].lastEnd.code]
  | none => List.replicate 13 0x00#8 ++ [s.admissions[t].lastEnd.code]

/-- The STATUS answer (R194). -/
def State.statusAnswer (s : State) : List Byte :=
  [s.membership.state.code, flag8 s.fence.fenced, s.fence.causes.zeroExtend 8, flag8 s.fence.marker,
    nat8 s.delivery.queue.length, nat8 s.memory.free, flag8 s.fence.stop.isSome,
    nat8 s.link.notices.length, s.trail.mode.code, nat8 s.config.ownDomain.val] ++
  allTesters.flatMap s.testerStatus

/-- One incident record: 14 bytes, all 0 when empty (R194). -/
def incidentBytes : Option Incident → List Byte
  | none => List.replicate 14 0x00#8
  | some i =>
    [0x01#8] ++ i.cause.codes ++ bytes16 (claimCode i.claim) ++
      [testerCode i.tester, tagCode i.tag, classCode i.cls] ++ bytes32 i.time ++
      [i.status.code, match i.outcome with | some o => o.code | none => 0x00#8]

/-- The INCIDENTS answer: CURRENT then PRIOR (R194). -/
def State.incidentsAnswer (s : State) : List Byte :=
  incidentBytes s.fence.current ++ incidentBytes s.fence.prior

/-- The sponsor fields of a record in the VIEW answer; 0 where not homed here (R194). -/
def sponsorBytes (now : Time) : Option Sponsor → List Byte
  | none => List.replicate 6 0x00#8
  | some p =>
    [0x01#8, flag8 p.ending, p.op.code, flag8 p.credit] ++
      nat16 (match p.leaseTimer with | some t => t.remainingSeconds now | none => 0)

/-- One record of the VIEW answer: 15 bytes (R91, R194). -/
def Record.viewBytes (now : Time) (r : Record) : List Byte :=
  bytes16 r.id ++ [testerAddress r.tester, r.cls.code] ++ bytesOfDomains r.scope ++
    [r.state.code, flagsByte r.paced r.oneShot, flag8 r.consented] ++ sponsorBytes now r.sponsor

/-- The VIEW answer (R91, R194). -/
def State.viewAnswer (s : State) : List Byte :=
  nat8 s.hold.view.length :: s.hold.view.flatMap (Record.viewBytes s.guardTime)

/-- One roster entry: 11 bytes (R194). -/
def State.rosterBytes (s : State) (d : Domain) : List Byte :=
  let e := s.membership.roster[d]
  [nat8 d.val, e.state.code] ++
    bytes32 (match e.digest with | some x => x | none => 0) ++
    [match e.startKind with | some k => k.code | none => 0x00#8] ++
    bytes32 (match e.heard with | some t => t | none => 0)

/-- The fitted domains, ascending. -/
def Settings.fitted (c : Settings) : List Domain := allDomains.filter fun d => inSet d c.domainMap

/-- The ROSTER answer (R194). -/
def State.rosterAnswer (s : State) : List Byte :=
  [nat8 s.config.ownDomain.val, nat8 s.config.fitted.length] ++ s.config.fitted.flatMap s.rosterBytes

/-- One trail position: 10 bytes; a position never written is an empty entry, whose guard time is a free
value (R190, R194; log entry 9). -/
def trailBytes (absent : Time) : Option TrailEntry → List Byte
  | some e =>
    bytes32 e.time ++ [e.event.code, testerCode e.tester] ++ bytes16 (claimCode e.claim) ++
      [classCode e.cls, e.detail]
  | none => bytes32 absent ++ [0x00#8, 0x00#8] ++ bytes16 noClaim ++ [0xFF#8, 0x00#8]

/-- The countdown, 0 unless DRAINING (R190). -/
def TrailMode.countdown : TrailMode → Nat
  | .draining n => n
  | _ => 0

/-- The trail position `k` positions after an index, wrapping from 511 to 0 (R190). -/
def trailPosition (index k : Nat) : Fin 512 := Fin.ofNat 512 (index + k)

/-- The TRAIL answer: the header, then the entries from the index on (R190, R194). -/
def State.trailAnswer (s : State) (index count : Nat) : List Byte :=
  nat16 s.trail.index.val ++ [flag8 s.trail.wrapped, s.trail.mode.code, nat8 s.trail.mode.countdown] ++
    bytes16 s.trail.skipped ++
  (List.range count).flatMap fun k =>
    trailBytes (Config.absentTime s.freeCount (trailPosition index k).val)
      s.trail.entries[trailPosition index k]

/-- The THAW answer: the trail state and the skipped count before (R190, R194). -/
def State.thawAnswer (s : State) : List Byte := s.trail.mode.code :: bytes16 s.trail.skipped

/-- The COUNTERS answer (R191, R194). -/
def State.countersAnswer (s : State) : List Byte := s.trail.counters.toList.flatMap bytes16

/-- The CAPTURE answer: all 0 when empty (R192, R194). -/
def State.captureAnswer (s : State) : List Byte :=
  match s.trail.capture with
  | none => List.replicate 56 0x00#8
  | some c =>
    [0x01#8, testerAddress c.tester, c.tag, classCode c.cls, c.reason] ++ nat16 c.total ++
      [nat8 c.data.length] ++ takeZero c.data 0 48

/-! ## The judgement (R193) -/

/-- The selectors of QUERY (R21). -/
inductive Selector where
  | status
  | incidents
  | view
  | roster
  | trail
  | thaw
  | counters
  | capture
  deriving DecidableEq, Repr

/-- The selector of a code (R21). -/
def Selector.ofCode (b : Byte) : Option Selector :=
  if b = 0x01#8 then some .status
  else if b = 0x02#8 then some .incidents
  else if b = 0x03#8 then some .view
  else if b = 0x04#8 then some .roster
  else if b = 0x05#8 then some .trail
  else if b = 0x06#8 then some .thaw
  else if b = 0x07#8 then some .counters
  else if b = 0x08#8 then some .capture
  else none

/-- A QUERY of a selector passes under its own row; one with another selector byte under any (log entry
5). -/
def selectorRow (x : Selector) (p : List Byte) : Bool :=
  match Selector.ofCode (byteAt p 0) with
  | some y => y == x
  | none => true

/-- The trail index and count of a QUERY (R21). -/
def queryIndex (p : List Byte) : Nat := (word16At p 2).toNat
def queryCount (p : List Byte) : Nat := (byteAt p 4).toNat

/-- The fourth and fifth checks of R193, for TRAIL. -/
def trailRefusal (p : List Byte) : Option Byte :=
  if 511 < queryIndex p then some Reason.notFound
  else if 32 < queryCount p then some Reason.tooLong
  else none

/-- The first five checks of R193, in their order. -/
def State.queryRefusal (s : State) (t : Tester) (p : List Byte) : Option Byte :=
  if !s.admitted t then some Reason.notAdmitted
  else if !s.grants t .audit then some Reason.capability
  else
    match Selector.ofCode (byteAt p 0) with
    | none => some Reason.notFound
    | some .trail => trailRefusal p
    | some _ => none

/-- The sixth check of R193: the reply list holds fewer than 16 answers, and the blocks are there. -/
def State.canStage (s : State) (n : Nat) : Bool :=
  s.memory.replies.length < Config.replyAnswers && blocksFor n ≤ s.memory.free

/-- The RESULT of a refused QUERY (R193). -/
def State.queryResult (s : State) (t : Tester) (p : List Byte) (reason : Byte) : State :=
  s.offerResult .query t (byteAt p 1) reason noClaim

/-- Stage a query answer: its blocks are taken, origin audit, class 8 (R193). -/
def State.stageAudit (s : State) (t : Tester) (tag : Byte) (data : List Byte) : State :=
  (s.takeBlocks (blocksFor data.length)).stageAnswer ⟨t, tag, .audit, .audit, data, 0⟩

/-- The passage of a QUERY: judged; its answer is staged, and the selector's effect follows (R193). -/
def State.passQuery (s : State) (t : Tester) (p : List Byte) (answer : State → List Byte)
    (effect : State → State) : State :=
  match s.queryRefusal t p with
  | some r => s.queryResult t p r
  | none =>
    if s.canStage (answer s).length then effect (s.stageAudit t (byteAt p 1) (answer s))
    else s.queryResult t p Reason.memoryFull

/-- A query whose selector has no effect beside its answer (R193). -/
def State.plainQuery (s : State) (x : Selector) (answer : State → List Byte) : State :=
  s.testerPassage .query (selectorRow x) fun t p s => s.passQuery t p answer id

/-- QUERY_STATUS (R193, R194). -/
def execQueryStatus (s : State) : Host.Outcome State Fault Refusal :=
  finish (s.plainQuery .status State.statusAnswer)

/-- QUERY_INCIDENTS (R193, R194). -/
def execQueryIncidents (s : State) : Host.Outcome State Fault Refusal :=
  finish (s.plainQuery .incidents State.incidentsAnswer)

/-- QUERY_VIEW (R91, R193, R194). -/
def execQueryView (s : State) : Host.Outcome State Fault Refusal :=
  finish (s.plainQuery .view State.viewAnswer)

/-- QUERY_ROSTER (R193, R194). -/
def execQueryRoster (s : State) : Host.Outcome State Fault Refusal :=
  finish (s.plainQuery .roster State.rosterAnswer)

/-- The free values that a TRAIL answer used are used up (MODEL's own, log entry 9). -/
def State.useFree (s : State) : State := { s with freeCount := s.freeCount + 1 }

/-- QUERY_TRAIL (R190, R193, R194). -/
def execQueryTrail (s : State) : Host.Outcome State Fault Refusal :=
  finish (s.testerPassage .query (selectorRow .trail) fun t p s =>
    s.passQuery t p (fun s => s.trailAnswer (queryIndex p) (queryCount p)) State.useFree)

/-- The effect of THAW: from FROZEN or DRAINING the trail becomes RECORDING, and a THAWED entry that
names the tester and carries the skipped count is written; the count is set to 0 (R190). -/
def State.thawTrail (s : State) (t : Tester) : State :=
  if s.trail.mode = .recording then s
  else
    let entry : TrailEntry := ⟨s.guardTime, .thawed, some t, some s.trail.skipped, none, 0x00#8⟩
    s.onTrail fun x => { ({ x with mode := .recording } : Trail).write entry with skipped := 0 }

/-- QUERY_THAW (R190, R193). -/
def execQueryThaw (s : State) : Host.Outcome State Fault Refusal :=
  finish (s.testerPassage .query (selectorRow .thaw) fun t p s =>
    s.passQuery t p State.thawAnswer fun s => s.thawTrail t)

/-- The effect of COUNTERS: every counter is 0 (R191). -/
def State.clearCounters (s : State) : State :=
  s.onTrail fun x => { x with counters := Vector.replicate 25 0 }

/-- QUERY_COUNTERS (R191, R193). -/
def execQueryCounters (s : State) : Host.Outcome State Fault Refusal :=
  finish (s.testerPassage .query (selectorRow .counters) fun t p s =>
    s.passQuery t p State.countersAnswer State.clearCounters)

/-- The effect of CAPTURE: the capture is empty (R192). -/
def State.clearCapture (s : State) : State := s.onTrail fun x => { x with capture := none }

/-- QUERY_CAPTURE (R192, R193). -/
def execQueryCapture (s : State) : Host.Outcome State Fault Refusal :=
  finish (s.testerPassage .query (selectorRow .capture) fun t p s =>
    s.passQuery t p State.captureAnswer State.clearCapture)

end Sys2Proof.Machine
end

