-- ==== Sys2Proof/Machine/Crc.lean ====
section
/-!
DEFINITION. The two cyclic redundancy checks: CRC-32 of the configuration image (R23) and CRC-8 of
the ECU link (R24). Both take bytes most significant bit first.
-/

namespace Sys2Proof.Machine

/-- One bit step of the CRC-32 register, generator polynomial 0x04C11DB7 (R23). -/
def crc32Bit (r : BitVec 32) : BitVec 32 :=
  if r.msb then (r <<< 1) ^^^ 0x04C11DB7#32 else r <<< 1

/-- One byte into the CRC-32 register. -/
def crc32Byte (r : BitVec 32) (b : Byte) : BitVec 32 :=
  Nat.repeat crc32Bit 8 (r ^^^ (b ++ 0#24))

/-- CRC-32 with the register preset to 0xFFFFFFFF and the final register inverted (R23). -/
def crc32 (bs : List Byte) : BitVec 32 := ~~~ (bs.foldl crc32Byte 0xFFFFFFFF#32)

/-- One bit step of the CRC-8 register, generator polynomial 0x07 (R24). -/
def crc8Bit (r : Byte) : Byte := if r.msb then (r <<< 1) ^^^ 0x07#8 else r <<< 1

/-- One byte into the CRC-8 register. -/
def crc8Byte (r b : Byte) : Byte := Nat.repeat crc8Bit 8 (r ^^^ b)

/-- CRC-8 with the register preset to 0x00 and no final inversion (R24). -/
def crc8 (bs : List Byte) : Byte := bs.foldl crc8Byte 0x00#8

end Sys2Proof.Machine
end

