-- ==== Sys2Proof/Machine/Image.lean ====
section
/-!
DEFINITION. The configuration image (R23): its fields, the structural checks (R28), the content checks
(R29) and the configuration digest (R32).
-/

namespace Sys2Proof.Machine

/-- The length field of the header (R23). -/
def imageLength (bs : List Byte) : Nat := (word16At bs 1).toNat

/-- The format byte is 1 (R28, first check). -/
def imageFormatOk (bs : List Byte) : Bool := byteAt bs 0 == 1#8

/-- The length field is from 192 to 2048 (R28, second check). -/
def imageLengthOk (bs : List Byte) : Bool := 192 ≤ imageLength bs && imageLength bs ≤ 2048

/-- The number of bytes the loader reads: the 3 header bytes, and the rest up to the length where the
header passes (R27, R28). -/
def imageBytesRead (bs : List Byte) : Nat :=
  if imageFormatOk bs && imageLengthOk bs then imageLength bs else 3

/-- Did the memory deliver every byte the loader reads (R27; log entry 8)? -/
def imageDelivered (bs : List Byte) : Bool := 3 ≤ bs.length && imageBytesRead bs ≤ bs.length

/-- The withdrawn count w at offset 184 (R23). -/
def withdrawnCount (bs : List Byte) : Nat := (byteAt bs 184).toNat

/-- The pattern count p at offset 187 + 4w (R23). -/
def patternCount (bs : List Byte) : Nat := (byteAt bs (187 + 4 * withdrawnCount bs)).toNat

/-- The image is of consistent length (R28, third check). -/
def imageConsistent (bs : List Byte) : Bool :=
  withdrawnCount bs ≤ 32 && 187 + 4 * withdrawnCount bs < imageLength bs && patternCount bs ≤ 48 &&
    imageLength bs == 192 + 4 * withdrawnCount bs + 22 * patternCount bs

/-- The CRC-32 of the image equals its trailer (R28, fourth check). -/
def imageCrcOk (bs : List Byte) : Bool :=
  crc32 (bs.take (imageLength bs - 4)) == word32At bs (imageLength bs - 4)

/-- The structural checks in their order (R28). -/
def imageStructureOk (bs : List Byte) : Bool :=
  imageFormatOk bs && imageLengthOk bs && imageConsistent bs && imageCrcOk bs

/-- The configuration digest: the CRC-32 over offsets 3 to 184 + 4w (R32). -/
def imageDigest (bs : List Byte) : BitVec 32 := crc32 ((bs.drop 3).take (182 + 4 * withdrawnCount bs))

/-! ## Reading the fields (R23) -/

/-- The timing values at offset 25 (R23). -/
def timingOf (bs : List Byte) : Timing where
  claimWindow := (word16At bs 25).toNat
  consentHold := (word16At bs 27).toNat
  leaseMax := (word16At bs 29).toNat
  testerQuiet := (byteAt bs 31).toNat
  segmentGap := (word16At bs 32).toNat
  queueWait := (byteAt bs 34).toNat
  serviceLimit := (word16At bs 35).toNat
  extensionsMax := (byteAt bs 37).toNat
  stopLimit := (word16At bs 38).toNat
  freezeAfter := (byteAt bs 40).toNat

/-- The touch table at offset 41: 60 domain sets (R23). -/
def touchOf (bs : List Byte) : List DomainSet :=
  (List.range 60).map fun i => domainSetAt bs (41 + 2 * i)

/-- The compatibility matrix at offset 161: 5 rows, bits 5 to 7 ignored (R23). -/
def matrixOf (bs : List Byte) : List (BitVec 5) :=
  (List.range 5).map fun i => (byteAt bs (161 + i)).extractLsb' 0 5

/-- The condition requirements at offset 166: 5 pairs (R23). -/
def requirementsOf (bs : List Byte) : List (BitVec 5 × BitVec 5) :=
  (List.range 5).map fun i =>
    ((byteAt bs (166 + 2 * i)).extractLsb' 0 5, (byteAt bs (167 + 2 * i)).extractLsb' 0 5)

/-- The class levels at offset 176: delivery level (a stored 0 taken as 1) and mask level (R23). -/
def levelsOf (bs : List Byte) : List (Nat × Nat) :=
  (List.range 8).map fun i =>
    let b := byteAt bs (176 + i)
    let delivery := (b.extractLsb' 4 2).toNat
    (if delivery = 0 then 1 else delivery, if i < 3 then 0 else (b.extractLsb' 0 2).toNat)

/-- The withdrawn serials at offset 185 (R23). -/
def withdrawnOf (bs : List Byte) : List (BitVec 32) :=
  (List.range (withdrawnCount bs)).map fun i => word32At bs (185 + 4 * i)

/-- The offset of the own domain (R23). -/
def stationOffset (bs : List Byte) : Nat := 185 + 4 * withdrawnCount bs

/-- The offset of pattern entry `i` (R23). -/
def patternOffset (bs : List Byte) (i : Nat) : Nat := stationOffset bs + 3 + 22 * i

/-- The disposition of a disposition byte (R23, R61). -/
def dispositionOf (b : Byte) : Option Disposition :=
  if b = 0xFF#8 then some .deliver
  else if h : b.toNat < 4 then some (.localReply ⟨b.toNat, h⟩)
  else none

/-- Pattern entry `i`; none where its class is above 7 or its disposition is neither 0xFF nor 0 to 3
(R23, R29). -/
def patternOf (bs : List Byte) (i : Nat) : Option Pattern :=
  let o := patternOffset bs i
  if (byteAt bs (o + 20)).toNat ≤ 7 then
    match Class.ofNumber (byteAt bs (o + 20)).toNat, dispositionOf (byteAt bs (o + 21)) with
    | some c, some d => some ⟨word16At bs o, takeZero bs (o + 2) 16, (word16At bs (o + 18)).toNat, c, d⟩
    | _, _ => none
  else none

/-- The pattern entries that are in order (R23). -/
def patternsOf (bs : List Byte) : List Pattern :=
  (List.range (patternCount bs)).filterMap fun i => patternOf bs i

/-- The domain map at offset 23 (R23). -/
def domainMapOf (bs : List Byte) : DomainSet := domainSetAt bs 23

/-! ## Content checks (R29) -/

/-- The own domain of the station part, if it is 0 to 11 (R29). -/
def ownDomainOf (bs : List Byte) : Option Domain :=
  if h : (byteAt bs (stationOffset bs)).toNat < 12 then some ⟨_, h⟩ else none

/-- A set lies within another. -/
def subset (x y : DomainSet) : Bool := x &&& y == x

/-- The scopes of fitted home domains hold their home, and only fitted domains (R29). -/
def scopesOk (bs : List Byte) : Bool :=
  (List.range 5).all fun i => allDomains.all fun h =>
    !inSet h (domainMapOf bs) ||
      (inSet h (domainSetAt bs (41 + 2 * (12 * i + h.val))) &&
        subset (domainSetAt bs (41 + 2 * (12 * i + h.val))) (domainMapOf bs))

/-- The compatibility matrix is symmetric (R29). -/
def matrixOk (m : List (BitVec 5)) : Bool :=
  (List.range 5).all fun i => (List.range 5).all fun j =>
    (m.getD i 0).getLsbD j == (m.getD j 0).getLsbD i

/-- Is a value in a range, both ends included? -/
def within (lo hi n : Nat) : Bool := lo ≤ n && n ≤ hi

/-- Each timing value lies in its range (R29). -/
def timingOk (t : Timing) : Bool :=
  within 50 2000 t.claimWindow && within (2 * t.claimWindow) 10000 t.consentHold &&
  within 5 900 t.leaseMax && within 5 120 t.testerQuiet && within 50 5000 t.segmentGap &&
  within 1 120 t.queueWait && within 100 60000 t.serviceLimit && within 0 255 t.extensionsMax &&
  within 50 5000 t.stopLimit && within 0 255 t.freezeAfter

/-- Every pattern entry has a class up to 7 and a disposition of 0xFF or 0 to 3 (R29). -/
def patternsOk (bs : List Byte) : Bool :=
  (List.range (patternCount bs)).all fun i => (patternOf bs i).isSome

/-- The settled configuration of an image (R23, R30, R32). -/
def settingsOf (bs : List Byte) (own : Domain) : Settings where
  vehicleId := word32At bs 3
  checkKey := takeZero bs 7 16
  domainMap := domainMapOf bs
  timing := timingOf bs
  touch := touchOf bs
  matrix := matrixOf bs
  requirements := requirementsOf bs
  levels := levelsOf bs
  withdrawn := withdrawnOf bs
  ownDomain := own
  fenceAtPowerOn := (byteAt bs (stationOffset bs + 1)).getLsbD 0
  fenceAfterLineReset := (byteAt bs (stationOffset bs + 1)).getLsbD 1
  patterns := patternsOf bs
  digest := imageDigest bs

/-- The image's settled configuration where it passes every check of R28 and R29; none where it is
rejected. -/
def imageSettings (bs : List Byte) : Option Settings :=
  if imageStructureOk bs then
    match ownDomainOf bs with
    | none => none
    | some own =>
      if inSet own (domainMapOf bs) && scopesOk bs && matrixOk (matrixOf bs) &&
          timingOk (timingOf bs) && patternsOk bs then
        some (settingsOf bs own)
      else none
  else none

end Sys2Proof.Machine
end

