-- ==== Sys2Proof/Machine/StartUp.lean ====
section
/-!
DEFINITION. Starts, the configuration loader and acceptance (R25 to R32, R175, R176, R188), and the
FENCE line (R169).
-/

namespace Sys2Proof.Machine

/-! ## Starts (R25, R26) -/

/-- Every piece of state at its POWER_ON value, STARTING (R25, R26). The levels of the input lines, the
queue of commands and the count of free values used are not the guard's to reset (log entry 6). -/
def State.startPowerOn (s : State) : State :=
  { State.reset with
    pending := s.pending
    freeCount := s.freeCount
    pins := { State.reset.pins with
      resetAsserted := s.pins.resetAsserted
      fenceAsserted := s.pins.fenceAsserted } }

/-- Every piece of state at its LINE_RESET value, STARTING (R25, R26): the domain state, the cause set,
the incident records and the marker are kept (R167, R168, R173), and the trail unit (R188, R191, R192).
The stop order is emptied (R160, R176). -/
def State.startLineReset (s : State) : State :=
  { State.reset with
    pending := s.pending
    freeCount := s.freeCount
    startKind := .lineReset
    pins := { State.reset.pins with
      resetAsserted := s.pins.resetAsserted
      fenceAsserted := s.pins.fenceAsserted }
    fence := { s.fence with stop := none }
    trail := s.trail }

/-- POWER_ON: the start begins, or waits for the release of RESET with the domain state OPEN (R25). -/
def execPowerOn (s : State) : Host.Outcome State Fault Refusal :=
  finish <|
    if s.pins.resetAsserted then
      (s.startPowerOn.setPhase (.held .powerOn)).setLoader .idle
    else s.startPowerOn

/-- The start that the release of RESET will make (R25; log entry 22). -/
def State.startAfterReset (s : State) : StartKind :=
  match s.phase with
  | .held k => k
  | _ => .lineReset

/-- RESET asserted: whatever is in progress ends, and the guard is held (R25). -/
def State.assertReset (s : State) : State :=
  let s := s.setPhase (.held s.startAfterReset)
  let s := s.onPins fun p => { p with resetAsserted := true }
  let s := s.onBus fun b => { b with sending := none }
  let s := s.onLink fun l => { l with response := none }
  s.setLoader .idle

/-- RESET_ASSERTED (R25). -/
def execResetAsserted (s : State) : Host.Outcome State Fault Refusal := finish s.assertReset

/-- RESET released: the start of the kind that was held begins (R25; log entry 22). -/
def State.releaseReset (s : State) : State :=
  let kind := s.startAfterReset
  let s := s.onPins fun p => { p with resetAsserted := false }
  if kind = .powerOn then s.startPowerOn else s.startLineReset

/-- LINE_RESET (R25). -/
def execLineReset (s : State) : Host.Outcome State Fault Refusal := finish s.releaseReset

/-! ## Rejection and acceptance (R30, R31) -/

/-- The image is rejected: UNCONFIGURED (R31). -/
def State.rejectImage (s : State) : State := (s.setLoader .idle).setPhase .unconfigured

/-- The start fence causes after POWER_ON (R175). -/
def State.startFencesPowerOn (s : State) : State :=
  let s :=
    if s.config.fenceAtPowerOn then s.takeFenceCause .powerOn (s.fenceIncident .powerOn) else s
  if s.pins.fenceAsserted then s.takeFenceCause .line (s.fenceIncident .line) else s

/-- Is an incident an OPEN STOP incident? -/
def Incident.openStop (i : Incident) : Bool :=
  match i.cause with
  | .stop _ => i.status == .opened
  | .fence _ => false

/-- Change the incident in CURRENT where it is an OPEN STOP incident (R176). -/
def State.updateOpenStop (s : State) (f : Incident → Incident) : State :=
  s.updateIncident fun i => if i.openStop then f i else i

/-- The fence unit brought up to date after LINE_RESET: the steps of R176, in their order. -/
def State.startFencesLineReset (s : State) : State :=
  let s := s.updateOpenStop fun i => { i with outcome := some .abandoned }
  let s :=
    if s.fence.marker && s.config.fenceAfterLineReset then
      s.takeFenceCause .restart (s.fenceIncident .restart)
    else s
  let s :=
    if s.fence.hasCause .line then
      if s.pins.fenceAsserted then s else s.dropFenceCause .line
    else if s.pins.fenceAsserted then s.takeFenceCause .line (s.fenceIncident .line)
    else s
  let s := s.updateOpenStop fun i => { i with status := .closed }
  s.onFence fun f => { f with marker := false }

/-- The fence unit and the trail unit at acceptance, by the start kind (R30, R175, R176, R188). -/
def State.startFences (s : State) : State :=
  match s.startKind with
  | .lineReset => (s.post .restart none none none StartKind.lineReset.code).startFencesLineReset
  | _ => s.startFencesPowerOn

/-- The controller enabled, JOIN offered and recorded, JOINING (R17, R30, R35, R44): the JOIN finds the
queue empty (R13). -/
def State.enableAndJoin (s : State) (kind : StartKind) : State :=
  let s := s.onBus fun _ => { Backbone.start with mode := .enabled }
  let s := s.joinQueue
    (guardFrame s.config.ownDomain .join (joinPayload s.config.digest s.config.ownDomain kind)) 0
  s.onMembership fun m => { m with state := .joining, outstanding := [⟨.start, .queued⟩] }

/-- The image is accepted (R30; the order by log entry 23). -/
def State.acceptImage (s : State) (c : Settings) : State :=
  let s := ((s.setConfig c).setLoader .idle).setPhase .running
  s.startFences.enableAndJoin s.startKind

/-! ## The loader (R27, R28) -/

/-- A read attempt fails: the loader waits, or rejects the image at the third failure (R27). -/
def State.failAttempt (s : State) : State :=
  match s.phase, s.loader with
  | .starting, .reading n =>
    if Config.loaderAttempts ≤ n + 1 then s.rejectImage
    else s.setLoader (.waiting (n + 1) (s.startTimer Config.loaderWait))
  | _, _ => s

/-- ATTEMPT_FAILED (R27). -/
def execAttemptFailed (s : State) : Host.Outcome State Fault Refusal := finish s.failAttempt

/-- The wait after a failed attempt is over: the loader starts again from the header (R27). -/
def State.retryLoader (s : State) : State :=
  match s.phase, s.loader with
  | .starting, .waiting n t => (s.reachDue t).setLoader (.reading n)
  | _, _ => s

/-- LOADER_RETRY_WAIT_EXPIRY (R27). -/
def execLoaderRetryWaitExpiry (s : State) : Host.Outcome State Fault Refusal := finish s.retryLoader

/-- The last attempt completes and the checks are made (R28 to R31). -/
def State.readImage (s : State) (bytes : List Byte) : State :=
  match s.phase, s.loader with
  | .starting, .reading _ =>
    if imageDelivered bytes then
      match imageSettings bytes with
      | some c => s.acceptImage c
      | none => s.rejectImage
    else s
  | _, _ => s

/-- IMAGE_READ_DONE (R28). -/
def execImageReadDone (bytes : List Byte) (s : State) : Host.Outcome State Fault Refusal :=
  finish (s.readImage bytes)

/-! ## The FENCE line (R169) -/

/-- The FENCE line becomes asserted: LINE is taken as a fence cause once the image is accepted (R169). -/
def State.assertFenceLine (s : State) : State :=
  if s.pins.fenceAsserted then s
  else
    let s := s.onPins fun p => { p with fenceAsserted := true }
    if s.phase = .running then s.takeFenceCause .line (s.fenceIncident .line) else s

/-- FENCE_LINE_ASSERTION (R169). -/
def execFenceLineAssertion (s : State) : Host.Outcome State Fault Refusal := finish s.assertFenceLine

/-- The FENCE line is released: LINE leaves the cause set, the domain state stands (R169). -/
def State.releaseFenceLine (s : State) : State :=
  if s.pins.fenceAsserted then
    let s := s.onPins fun p => { p with fenceAsserted := false }
    if s.phase = .running then s.dropFenceCause .line else s
  else s

/-- FENCE_LINE_RELEASE (R169). -/
def execFenceLineRelease (s : State) : Host.Outcome State Fault Refusal := finish s.releaseFenceLine

end Sys2Proof.Machine
end

