-- ==== Sys2Proof/Machine/BusEvents.lean ====
section
/-!
DEFINITION. The backbone controller's events (R8 to R17, R35), bus loss in every unit (R43, R81, R76,
R159), bus return (R44), and the reply segmenter (R156).
-/

namespace Sys2Proof.Machine

/-- The controller takes part in the bus: enabled, and not held by RESET (R15, R17, R25). -/
def State.onBackbone (s : State) : Bool := s.phase == .running && s.bus.mode == .enabled

/-! ## Receiving (R8, R10) -/

/-- The outcomes of the acceptance rule on the bus (R8). -/
inductive Acceptance where
  | keep
  | dropCounted
  | ignore
  deriving DecidableEq, Repr

/-- The acceptance rule (R8). -/
def acceptance (c : Settings) (f : Frame) : Acceptance :=
  match sourceClass c f.source with
  | .own | .foreign => .dropCounted
  | .tester _ => .keep
  | .peer _ =>
    match f.kind? with
    | some k =>
      if k.guardKind then .keep
      else if targetsOwnOrAll c f.target then .dropCounted else .ignore
    | none => if targetsOwnOrAll c f.target then .dropCounted else .ignore

/-- Is there a place for a received frame? One place is kept free for the echo while an own transmission
is under way (R10). -/
def Backbone.placeForFrame (b : Backbone) : Bool :=
  b.rxFifo.length + (if b.sending.isSome then 1 else 0) < Config.rxPlaces

/-- A frame that the acceptance rule keeps is stored, or discarded with a loss event (R10). -/
def State.storeFrame (s : State) (f : Frame) : State :=
  if s.bus.placeForFrame then s.onBus fun b => { b with rxFifo := b.rxFifo ++ [⟨f, false, 0⟩] }
  else (s.count Counter.rxLosses).lossEvent

/-- A frame of another station completes (R8, R9, R10); the receive error count falls (R15). -/
def State.receiveFrame (s : State) (f : BusFrame) : State :=
  if s.onBackbone then
    let s := s.onBus fun b => { b with rxErrors := b.rxErrors - 1 }
    match f.format with
    | .base | .remote => s
    | .classicExtended | .fdExtended =>
      let frame := Frame.ofIdent f.ident f.payload
      match acceptance s.config frame with
      | .keep => s.storeFrame frame
      | .dropCounted => s.count Counter.foreignFrames
      | .ignore => s
  else s

/-- FRAME_RECEIVED (R10). -/
def execFrameReceived (frame : BusFrame) (s : State) : Host.Outcome State Fault Refusal :=
  finish (s.receiveFrame frame)

/-! ## Sending (R4, R12, R15) -/

/-- The entry that goes to arbitration: lowest urgency value, earliest joined among equals (R12). -/
def chooseEntry (q : List TxEntry) : Option Nat :=
  q.findIdx? fun e => q.all fun x => e.frame.urgency.toNat ≤ x.frame.urgency.toNat

/-- May a waiting REVOKE_DOMAIN join (R13)? -/
def State.revokeCanJoin (s : State) : Bool := s.onBackbone && s.revokeWaits && s.roomForProtocol

/-- The controller starts arbitration: the bus is free, and a place of the FIFO is free (R10, R12). A
waiting REVOKE_DOMAIN joins a freed entry first (R13; log entry 15). -/
def State.startArbitration (s : State) : State :=
  if s.onBackbone && s.bus.sending.isNone && s.bus.rxFifo.length < Config.rxPlaces &&
      !s.revokeCanJoin then
    s.onBus fun b => { b with sending := chooseEntry b.txQueue }
  else s

/-- ARBITRATION_START (R12). -/
def execArbitrationStart (s : State) : Host.Outcome State Fault Refusal := finish s.startArbitration

/-- Arbitration is lost: the entry stays in the queue (R12). -/
def State.loseArbitration (s : State) : State :=
  if s.onBackbone then s.onBus fun b => { b with sending := none } else s

/-- ARBITRATION_LOST (R12). -/
def execArbitrationLost (s : State) : Host.Outcome State Fault Refusal := finish s.loseArbitration

/-- Change the first member of a list that a test finds. -/
def updateFirst {α : Type} (p : α → Bool) (f : α → α) : List α → List α
  | [] => []
  | x :: xs => if p x then f x :: xs else x :: updateFirst p f xs

/-- A clearing frame completes: COMPLETED with its covering mark set (R35). -/
def completeClearing (join : Bool) (cs : List Clearing) : List Clearing :=
  updateFirst (fun c => c.isJoin == join && c.progress == .queued)
    (fun c => { c with progress := .completed true }) cs

/-- The outstanding record as an own frame of a kind completes (R35). -/
def State.noteCompleted (s : State) (k : Option FrameKind) : State :=
  match k with
  | some .join => s.onMembership fun m => { m with outstanding := completeClearing true m.outstanding }
  | some .revokeDomain =>
    s.onMembership fun m => { m with outstanding := completeClearing false m.outstanding }
  | _ => s

/-- The guard's frame completes: its echo enters the FIFO, and its entry becomes free (R4, R11); the
transmit error count falls (R15). -/
def State.completeOwn (s : State) : State :=
  if s.onBackbone then
    match s.bus.sending with
    | none => s
    | some i =>
      match s.bus.txQueue[i]? with
      | none => s
      | some e =>
        let s := s.onBus fun b =>
          { b with
            txErrors := b.txErrors - 1
            rxFifo := b.rxFifo ++ [⟨e.frame, true, e.blocks⟩]
            txQueue := b.txQueue.eraseIdx i
            sending := none }
        s.noteCompleted e.frame.kind?
  else s

/-- ECHO (R4). -/
def execEcho (s : State) : Host.Outcome State Fault Refusal := finish s.completeOwn

/-! ## Bus loss (R15, R43) -/

/-- Blocks that the transmit queue and the echoes in the FIFO hold (R137; log entry 17). -/
def Backbone.blocks (b : Backbone) : Nat :=
  (b.txQueue.map fun e => e.blocks).sum + (b.rxFifo.map fun e => e.blocks).sum

/-- The controller enters bus-off: FIFO and queue emptied, with the blocks they hold freed (R15, R137). -/
def State.enterBusOff (s : State) : State :=
  let n := s.bus.blocks
  let s := s.onBus fun b =>
    { b with mode := .busOff, rxFifo := [], txQueue := [], sending := none }
  s.freeBlocks n

/-- The membership unit at the bus-loss event (R43). -/
def Membership.busLoss (m : Membership) : Membership :=
  { m with state := .offline, outstanding := [], presentOwed := false }

/-- The hold unit at the bus-loss event: marks cleared, reservations released (R76, R81). -/
def Hold.busLoss (h : Hold) : Hold :=
  { h with
    view := h.view.map fun r => { r with breakSent := false, cancelSent := false }
    reservations := [] }

/-- Blocks that a lane holds (R138). -/
def Lane.blocks : Lane → Nat
  | .assembling a => blocksFor a.total
  | _ => 0

/-- The request memory at the bus-loss event: every lane FREE, the reply list empty, their blocks
returned (R159). -/
def Memory.busLoss (m : Memory) : Memory where
  free := m.free + (m.lanes.toList.map Lane.blocks).sum + (m.replies.map Answer.blocks).sum
  lanes := Vector.replicate 14 .free
  replies := []

/-- The service slot at the bus-loss event: a read request leaves it, an effecting one is asked a stop
order (R159). -/
def State.busLossInService (s : State) : State :=
  match s.delivery.service with
  | none => s
  | some v => if v.cls.effecting then s.askStop .busLoss else s.leaveSlot v

/-- The bus-loss event in every unit (R15, R43, R159). -/
def State.busLoss (s : State) : State :=
  let s := s.enterBusOff
  let s := s.onMembership Membership.busLoss
  let s := s.onHold Hold.busLoss
  let s := s.onMemory Memory.busLoss
  let s := s.removeEntries (fun _ => true) none
  s.busLossInService

/-- An error while the guard transmits: the count rises by 8; above 255 the controller enters bus-off,
and otherwise the same entry is sent again (R12, R15; log entry 16). -/
def State.transmitError (s : State) : State :=
  if s.onBackbone && s.bus.sending.isSome then
    let s := s.onBus fun b => { b with txErrors := b.txErrors + 8 }
    if 255 < s.bus.txErrors then s.busLoss else s
  else s

/-- TRANSMIT_ERROR (R15). -/
def execTransmitError (s : State) : Host.Outcome State Fault Refusal := finish s.transmitError

/-- An error while the guard receives: the receive error count rises by 1 (R15). -/
def State.receiveError (s : State) : State :=
  if s.onBackbone then s.onBus fun b => { b with rxErrors := b.rxErrors + 1 } else s

/-- RECEIVE_ERROR (R15). -/
def execReceiveError (s : State) : Host.Outcome State Fault Refusal := finish s.receiveError

/-- Bus return: the controller is enabled afresh, JOIN(BUS_RETURN) is offered, JOINING (R16, R44). -/
def State.busReturn (s : State) : State :=
  if s.phase = .running ∧ s.bus.mode = .busOff then s.enableAndJoin .busReturn else s

/-- BUS_RETURN (R16). -/
def execBusReturn (s : State) : Host.Outcome State Fault Refusal := finish s.busReturn

/-! ## The waiting REVOKE_DOMAIN (R13) and the reply segmenter (R156) -/

/-- The WAITING clearing frame becomes QUEUED (R35). -/
def queueWaiting (cs : List Clearing) : List Clearing :=
  updateFirst (fun c => c.progress == .waiting) (fun c => { c with progress := .queued }) cs

/-- The waiting REVOKE_DOMAIN joins the queue: WAITING becomes QUEUED (R13, R35). -/
def State.joinWaitingRevoke (s : State) : State :=
  if s.revokeCanJoin then
    match s.membership.outstanding.find? fun c => c.progress == .waiting with
    | none => s
    | some c =>
      let s := s.joinQueue (s.revokeFrame c.reason) 0
      s.onMembership fun m => { m with outstanding := queueWaiting m.outstanding }
  else s

/-- WAITING_REVOKE_DOMAIN_JOINS (R13). -/
def execWaitingRevokeDomainJoins (s : State) : Host.Outcome State Fault Refusal :=
  finish s.joinWaitingRevoke

/-- The reply list after the next segment of its head has joined the queue: an answer whose last segment
has joined leaves it (R156). -/
def advanceReplies : List Answer → List Answer
  | [] => []
  | a :: rest =>
    if a.next + 1 < segmentCount a.data.length then { a with next := a.next + 1 } :: rest else rest

/-- The next segment of the answer at the head joins the transmit queue, with its blocks (R156, R137). -/
def State.offerSegment (s : State) : State :=
  if s.onBackbone && s.roomForTester && !s.revokeWaits then
    match s.memory.replies with
    | [] => s
    | a :: _ =>
      let s := s.joinQueue (testerFrame s.config.ownDomain a.kind a.tester a.payload)
        (blocksOfSegment a.data.length a.next)
      s.onMemory fun m => { m with replies := advanceReplies m.replies }
  else s

/-- REPLY_SEGMENTER_OFFER (R156). -/
def execReplySegmenterOffer (s : State) : Host.Outcome State Fault Refusal := finish s.offerSegment

/-! ## Echo passages without a block to handle them but the request memory (R7, R137) -/

/-- Is a kind of a certain sort? -/
def Frame.isSort (p : FrameKind → Bool) (f : Frame) : Bool :=
  match f.kind? with
  | some k => p k
  | none => false

/-- The passage of an echoed answer segment: its blocks are freed (R137). -/
def State.passAnswerEcho (s : State) : State :=
  match s.head with
  | none => s
  | some e =>
    if e.echo && e.frame.isSort FrameKind.answerKind then s.popHead.freeBlocks e.blocks else s

/-- ANSWER_SEGMENT_ECHO (R137). -/
def execAnswerSegmentEcho (s : State) : Host.Outcome State Fault Refusal := finish s.passAnswerEcho

/-- The passage of an echoed status frame changes no other state (R7). -/
def State.passStatusEcho (s : State) : State :=
  match s.head with
  | none => s
  | some e => if e.echo && e.frame.isSort FrameKind.statusKind then s.popHead else s

/-- STATUS_FRAME_ECHO (R7). -/
def execStatusFrameEcho (s : State) : Host.Outcome State Fault Refusal := finish s.passStatusEcho

/-- Is a received tester frame handled for quiet refresh only: not a tester-to-guard kind under a target
that R7 allows (R8)? -/
def refreshOnly (c : Settings) (f : Frame) : Bool :=
  match f.kind? with
  | some k => !(k.testerKind && targetAllows c k f.target)
  | none => true

/-- Is it counted in FOREIGN_FRAMES as well: any other kind, targeted to the own address or 0xFF (R8)? -/
def refreshCounted (c : Settings) (f : Frame) : Bool :=
  !f.isSort FrameKind.testerKind && targetsOwnOrAll c f.target

/-- The passage of a tester frame kept for quiet refresh only (R8). -/
def State.passRefreshOnly (s : State) : State :=
  match s.head with
  | none => s
  | some e =>
    match testerOf e.frame.source with
    | none => s
    | some t =>
      if !e.echo && refreshOnly s.config e.frame then
        let s := s.popHead.quietRefresh t
        if refreshCounted s.config e.frame then s.count Counter.foreignFrames else s
      else s

/-- REFRESH_ONLY_PASSAGE (R8). -/
def execRefreshOnlyPassage (s : State) : Host.Outcome State Fault Refusal := finish s.passRefreshOnly

end Sys2Proof.Machine
end

