-- ==== Sys2Proof/Machine/LinkFraming.lean ====
section
/-!
DEFINITION. The framing of the ECU link (R24): which command the bytes of one transaction are (log
entry 29), and how a response is sent.
-/

namespace Sys2Proof.Machine

/-- The data length field of a command message (R24). -/
def linkLength (bs : List Byte) : Nat := (word16At bs 1).toNat

/-- The command message that the bytes of a transaction begin with: command, length, data and CRC-8;
none when LSEL was released before the CRC-8 byte (R24). -/
def linkMessage (bs : List Byte) : Option (List Byte) :=
  if 3 ≤ bs.length && 4 + linkLength bs ≤ bs.length then some (bs.take (4 + linkLength bs)) else none

/-- Does the CRC-8 of a complete command message match (R24)? -/
def linkCrcOk (m : List Byte) : Bool := crc8 (m.take (3 + linkLength m)) == byteAt m (3 + linkLength m)

/-- The command of a command code and its data (R24, R178); a POST goes by its kind byte. None for an
unknown code, and for a POST with no kind byte or a kind byte other than 0x01 to 0x03. -/
def linkCommand (code : Nat) (data : List Byte) : Option Instr :=
  match code with
  | 0x01 => some (.take data)
  | 0x02 => some (.read data)
  | 0x03 =>
    match data with
    | [] => none
    | kind :: bytes =>
      if kind = 0x01#8 then some (.postInterim bytes)
      else if kind = 0x02#8 then some (.postPart bytes)
      else if kind = 0x03#8 then some (.postFinal bytes)
      else none
  | 0x04 => some (.stopDone data)
  | 0x05 => some (.conditions data)
  | 0x06 => some (.notice data)
  | 0x07 => some (.slotLoad data)
  | 0x08 => some (.slotClear data)
  | 0x09 => some (.status data)
  | _ => none

/-- The command that a complete command message is (R24). -/
def commandOfMessage (m : List Byte) : Instr :=
  if linkCrcOk m then
    (linkCommand (byteAt m 0).toNat ((m.drop 3).take (linkLength m))).getD (.unknownCommandCode m)
  else .unknownCommandCode m

/-- The command that the bytes clocked in during one assertion of LSEL are (R24). -/
def commandOfTransaction (bs : List Byte) : Instr :=
  match linkMessage bs with
  | none => .transactionDiscarded
  | some m => commandOfMessage m

/-- A framed message: first byte, length, data and CRC-8 (R24). -/
def linkFrame (first : Byte) (data : List Byte) : List Byte :=
  let body := first :: nat16 data.length ++ data
  body ++ [crc8 body]

/-- A response as it is sent: status, length, data and CRC-8 (R24). -/
def Response.bytes (r : Response) : List Byte := linkFrame r.status.code r.data

/-- What the guard drives on LSDO as the ECU goes on clocking after its command message: 0xFF for the
`wait` bytes until the response is ready, then the response (R24); how many bytes that takes is open
(log entry 35). None: LSDO is undriven while RESET is asserted (R25). -/
def State.lsdo (s : State) (wait : Nat) : Option (List Byte) :=
  match s.phase with
  | .held _ => none
  | _ => some (List.replicate wait 0xFF#8 ++ (s.link.response.map Response.bytes).getD [])

end Sys2Proof.Machine
end

