-- ==== Sys2Proof/Machine/EcuLink.lean ====
section
/-!
DEFINITION. The commands of the ECU link (R24, R148 to R154, R162, R163, R177 to R186).
-/

namespace Sys2Proof.Machine

/-! ## Taking a command (R177) -/

/-- The response prepared for a command (R177). -/
def State.respond (s : State) (status : LinkStatus) (data : List Byte) : State :=
  s.onLink fun l => { l with response := some ⟨status, data⟩ }

/-- A command is taken: none while RESET is asserted, NOT_READY while STARTING or UNCONFIGURED, and
judged under its own rule once the image is accepted (R177). -/
def State.takeCommand (s : State) (act : State → State) : State :=
  match s.phase with
  | .held _ => s
  | .starting | .unconfigured => s.respond .notReady []
  | .running => act s

/-- A command whose data length must fit: any other length is answered ILLEGAL (R178). -/
def State.takeWithLength (s : State) (data : List Byte) (lo hi : Nat) (act : State → State) : State :=
  s.takeCommand fun s =>
    if lo ≤ data.length ∧ data.length ≤ hi then act s else s.respond .illegal []

/-- TRANSACTION_DISCARDED: the transaction changes nothing (R24). -/
def execTransactionDiscarded (s : State) : Host.Outcome State Fault Refusal := finish s

/-- UNKNOWN_COMMAND_CODE: a framing fault is answered ILLEGAL (R24; log entry 29). A message without one
is not this event (log entry 1). -/
def execUnknownCommandCode (message : List Byte) (s : State) : Host.Outcome State Fault Refusal :=
  finish <|
    if commandOfMessage message = .unknownCommandCode message then
      s.takeCommand fun s => s.respond .illegal []
    else s

/-! ## TAKE and READ (R148 to R150) -/

/-- The slot record of a handed-over entry (R149, R150). -/
def State.newService (s : State) (e : QueueEntry) : Service where
  tester := e.tester
  tag := e.tag
  cls := e.cls
  claim := e.claim
  data := e.data
  limit := some (s.startTimer s.config.timing.serviceLimit)
  interims := 0
  staged := []
  orphaned := false

/-- The claim of a handed-over request: its lease restarts, and a PACED claim's credit goes to 0
(R149). -/
def State.chargeClaim (s : State) (id : ClaimId) : State :=
  let now := s.guardTime
  s.updateRecord id fun r =>
    r.onSponsor fun p =>
      { p with leaseTimer := some ⟨now, 1000 * p.lease⟩, credit := if r.paced then false else p.credit }

/-- The effects of handing over an effecting request (R149). -/
def State.beginOperation (s : State) (e : QueueEntry) : State :=
  let s := s.onFence fun f => { f with marker := true }
  let s := s.setOperation e.claim .active
  s.post .delivered (some e.tester) (some e.claim) (some e.cls) 0x00#8

/-- The hand-over of the arbiter's choice (R149). -/
def State.handOver (s : State) (e : QueueEntry) : State :=
  let v := s.newService e
  let s := s.onDelivery fun d => { d with queue := d.queue.erase e, service := some v }
  let s := s.count Counter.delivered
  let s := if e.claim = noClaim then s else s.chargeClaim e.claim
  if e.cls.effecting then s.beginOperation e else s

/-- The data of an OK response to TAKE (R148, R178). -/
def takeData (e : QueueEntry) : List Byte :=
  [testerAddress e.tester, e.tag, e.cls.code] ++ bytes16 e.claim ++ nat16 e.data.length ++ e.data.take 240

/-- TAKE by the state at the moment it is taken (R148). -/
def State.takeRequest (s : State) : State :=
  if s.fence.stop.isSome || s.delivery.service.isSome then s.respond .blocked []
  else
    match s.arbiter with
    | none => s.respond .empty []
    | some e => (s.handOver e).respond .ok (takeData e)

/-- TAKE (R148). -/
def execTake (data : List Byte) (s : State) : Host.Outcome State Fault Refusal :=
  finish (s.takeWithLength data 0 0 fun s => s.takeRequest)

/-- READ: the request bytes from the offset up to the count (R150); a count of 0 or above 256 is ILLEGAL
(R178). -/
def State.readRequest (s : State) (data : List Byte) : State :=
  if 1 ≤ (word16At data 2).toNat ∧ (word16At data 2).toNat ≤ 256 then
    match s.delivery.service with
    | none => s.respond .empty []
    | some v => s.respond .ok ((v.data.drop (word16At data 0).toNat).take (word16At data 2).toNat)
  else s.respond .illegal []

/-- READ (R150). -/
def execRead (data : List Byte) (s : State) : Host.Outcome State Fault Refusal :=
  finish (s.takeWithLength data 4 4 fun s => s.readRequest data)

/-! ## POST (R151 to R154, R163, R179) -/

/-- A POST of `bytes` answer bytes is taken: 1 to 256 data bytes with the kind byte (R178); with no
request in service it is STALE (R154, R179). -/
def State.takePost (s : State) (bytes : List Byte) (act : Service → State → State) : State :=
  s.takeWithLength (0x00#8 :: bytes) 1 256 fun s =>
    match s.delivery.service with
    | none => s.respond .stale []
    | some v => act v s

/-- An INTERIM for the request in service (R151, R154, R179). -/
def State.interim (s : State) (v : Service) : State :=
  if s.fence.stop.isSome then s.respond .ok []
  else if v.interims < s.config.timing.extensionsMax then
    let timer := s.startTimer s.config.timing.serviceLimit
    let s := s.updateService fun v => { v with interims := v.interims + 1, limit := some timer }
    let s :=
      if v.orphaned then s
      else s.offerStatus .ansWait v.tester (ansWaitPayload v.tag (v.interims + 1))
    s.respond .ok []
  else s.respond .illegal []

/-- POST_INTERIM (R151). -/
def execPostInterim (bytes : List Byte) (s : State) : Host.Outcome State Fault Refusal :=
  finish (s.takePost bytes fun v s => s.interim v)

/-- The blocks that staging `b` more bytes needs (R152). -/
def stagingNeed (v : Service) (b : Nat) : Nat :=
  blocksFor (v.staged.length + b) - blocksFor v.staged.length

/-- The judgement of a PART's or a FINAL's bytes: too long, too few blocks, or neither (R152, R179). -/
def State.stagingRefusal (s : State) (v : Service) (b : Nat) : Option LinkStatus :=
  if Config.longestMessage < v.staged.length + b then some .illegal
  else if s.memory.free < stagingNeed v b then some .wait
  else none

/-- The bytes of a PART are stored in the answer staging (R152). -/
def State.stageBytes (s : State) (v : Service) (bytes : List Byte) : State :=
  (s.takeBlocks (stagingNeed v bytes.length)).updateService fun v =>
    { v with staged := v.staged ++ bytes }

/-- A PART for the request in service (R152, R154, R179). -/
def State.part (s : State) (v : Service) (bytes : List Byte) : State :=
  if s.fence.stop.isSome then s.respond .ok []
  else
    match s.stagingRefusal v bytes.length with
    | some status => s.respond status []
    | none => (s.stageBytes v bytes).respond .ok []

/-- POST_PART (R152). -/
def execPostPart (bytes : List Byte) (s : State) : Host.Outcome State Fault Refusal :=
  finish (s.takePost bytes fun v s => s.part v bytes)

/-- ONE_SHOT: the FINAL that answers a request of a ONE_SHOT claim's class decides END(DONE) (R123). -/
def State.judgeOneShot (s : State) (v : Service) : State :=
  match s.standing v.claim with
  | .here r _ => if r.oneShot && r.cls == v.cls then s.decideEnd r.id Reason.done else s
  | _ => s

/-- The marker is cleared when an effecting request completes (R173). -/
def State.operationSeen (s : State) (v : Service) : State :=
  if v.cls.effecting then s.onFence fun f => { f with marker := false } else s

/-- A FINAL completes the request in service, and its answer joins the reply list (R153). -/
def State.completeService (s : State) (v : Service) (bytes : List Byte) : State :=
  let s := s.takeBlocks (stagingNeed v bytes.length)
  let s := s.stageAnswer ⟨v.tester, v.tag, .ecu, v.cls, v.staged ++ bytes, 0⟩
  let s := s.emptySlot v
  let s := s.count Counter.answered
  let s := s.operationSeen v
  if v.cls.effecting then s.judgeOneShot v else s

/-- A FINAL completes an orphaned request: its answer is discarded (R59, R153). -/
def State.completeOrphan (s : State) (v : Service) : State := (s.leaveSlot v).operationSeen v

/-- A FINAL for the request in service (R153, R163, R179). -/
def State.final (s : State) (v : Service) (bytes : List Byte) : State :=
  match s.fence.stop with
  | some o => (s.settleStop o v .answered).respond .ok []
  | none =>
    match s.stagingRefusal v bytes.length with
    | some status => s.respond status []
    | none =>
      if v.orphaned then (s.completeOrphan v).respond .ok []
      else if Config.replyAnswers ≤ s.memory.replies.length then s.respond .wait []
      else (s.completeService v bytes).respond .ok []

/-- POST_FINAL (R153). -/
def execPostFinal (bytes : List Byte) (s : State) : Host.Outcome State Fault Refusal :=
  finish (s.takePost bytes fun v s => s.final v bytes)

/-! ## STOP_DONE (R162) -/

/-- STOP_DONE: settles the outstanding stop of its tag, or is STALE (R162). -/
def State.stopDone (s : State) (tag : Byte) : State :=
  match s.fence.stop, s.delivery.service with
  | some o, some v =>
    if o.tag = tag then (s.settleStop o v .acknowledged).respond .ok [] else s.respond .stale []
  | _, _ => s.respond .stale []

/-- STOP_DONE (R162). -/
def execStopDone (data : List Byte) (s : State) : Host.Outcome State Fault Refusal :=
  finish (s.takeWithLength data 1 1 fun s => s.stopDone (byteAt data 0))

/-! ## CONDITIONS (R128, R180) -/

/-- A condition value byte (R180). -/
def triOf (b : Byte) : Tri :=
  if b = 0x01#8 then .true else if b = 0x00#8 then .false else .unknown

/-- The condition set of five value bytes (R178, R180). -/
def conditionsOf (data : List Byte) : Conditions :=
  ⟨triOf (byteAt data 0), triOf (byteAt data 1), triOf (byteAt data 2), triOf (byteAt data 3),
    triOf (byteAt data 4)⟩

/-- May this guard break a record (R128)? -/
def Record.breakable (r : Record) : Bool :=
  (match r.state with
    | .held => true
    | .pending | .resuming => r.consented
    | .suspended => false) &&
  !r.breakSent &&
  (match r.sponsor with
    | some p => !p.ending
    | none => true)

/-- Offer BREAK(CONDITION) for a record; one that is queued sets the break sent mark (R128). -/
def State.offerBreak (s : State) (r : Record) : State :=
  let told := s.takesProtocol
  let s := s.offerProtocol .breakClaim (claimReasonPayload r.id Reason.condition)
  if told then s.updateRecord r.id fun r => { r with breakSent := true } else s

/-- The hold unit judges its records for breaks, in ascending claim id (R128). -/
def State.judgeBreaks (s : State) : State :=
  (s.hold.view.filter fun r => r.breakable && !s.conditionsMet r.cls).foldl
    (fun s r => s.offerBreak r) s

/-- CONDITIONS: the set is replaced, and breaks are judged against it (R128, R180). -/
def State.reportConditions (s : State) (data : List Byte) : State :=
  let s := s.onLink fun l => { l with conditions := conditionsOf data }
  s.judgeBreaks.respond .ok []

/-- CONDITIONS (R180). -/
def execConditions (data : List Byte) (s : State) : Host.Outcome State Fault Refusal :=
  finish (s.takeWithLength data 5 5 fun s => s.reportConditions data)

/-! ## NOTICE (R181, R183) -/

/-- The 11 bytes of a notice (R181). -/
def Notice.bytes (n : Notice) : List Byte :=
  [n.kind.code] ++ bytes32 n.time ++ [testerCode n.tester, tagCode n.tag] ++ bytes16 n.claim ++
    [classCode n.cls, n.reason]

/-- The flags of a NOTICE response: bit 0 LOST, bit 1 further notices remain (R178); bits 2 to 7 are 0,
the model's choice (log entry 34). -/
def noticeFlags (lost more : Bool) : Byte :=
  (if lost then 0x01#8 else 0x00#8) ||| (if more then 0x02#8 else 0x00#8)

/-- NOTICE hands out the oldest notice and clears the lost mark, or is EMPTY (R183). -/
def State.handNotice (s : State) : State :=
  match s.link.notices with
  | [] => s.respond .empty []
  | n :: rest =>
    let flags := noticeFlags s.link.lost !rest.isEmpty
    let s := s.onLink fun l => { l with notices := rest, lost := false }
    s.respond .ok (flags :: n.bytes)

/-- NOTICE (R183). -/
def execNotice (data : List Byte) (s : State) : Host.Outcome State Fault Refusal :=
  finish (s.takeWithLength data 0 0 fun s => s.handNotice)

/-! ## SLOT_LOAD and SLOT_CLEAR (R184, R185) -/

/-- The standing reply slot of a slot byte (R184). -/
def slotOf (b : Byte) : Option (Fin 4) :=
  if h : b.toNat < 4 then some ⟨b.toNat, h⟩ else none

/-- Write bytes into a content at an offset. -/
def writeAt (content bytes : List Byte) (offset : Nat) : List Byte :=
  content.take offset ++ bytes ++ content.drop (offset + bytes.length)

/-- The slot after a SLOT_LOAD of a length, none where it is ILLEGAL (R184). -/
def loadSlot (slot : Slot) (length offset : Nat) (bytes : List Byte) : Option Slot :=
  if 256 < length ∨ length < offset + bytes.length then none
  else
    match slot with
    | .empty => some (.loaded (writeAt (List.replicate length 0x00#8) bytes offset))
    | .loaded content =>
      if content.length = length then some (.loaded (writeAt content bytes offset)) else none

/-- SLOT_LOAD (R184). -/
def State.slotLoad (s : State) (data : List Byte) : State :=
  match slotOf (byteAt data 0) with
  | none => s.respond .illegal []
  | some k =>
    match loadSlot s.slots[k] (word16At data 1).toNat (word16At data 3).toNat (data.drop 5) with
    | none => s.respond .illegal []
    | some slot => (s.setSlot k slot).respond .ok []

/-- SLOT_LOAD (R184). -/
def execSlotLoad (data : List Byte) (s : State) : Host.Outcome State Fault Refusal :=
  finish (s.takeWithLength data 5 256 fun s => s.slotLoad data)

/-- SLOT_CLEAR (R185). -/
def State.slotClear (s : State) (data : List Byte) : State :=
  match slotOf (byteAt data 0) with
  | none => s.respond .illegal []
  | some k => (s.setSlot k .empty).respond .ok []

/-- SLOT_CLEAR (R185). -/
def execSlotClear (data : List Byte) (s : State) : Host.Outcome State Fault Refusal :=
  finish (s.takeWithLength data 1 1 fun s => s.slotClear data)

/-! ## STATUS (R186) -/

/-- The data of a STATUS response (R186). -/
def State.statusData (s : State) : List Byte :=
  [s.membership.state.code, flag8 s.fence.fenced, s.fence.causes.zeroExtend 8,
    nat8 s.delivery.queue.length, nat8 s.memory.free, flag8 s.fence.stop.isSome,
    nat8 s.link.notices.length, nat8 s.config.ownDomain.val]

/-- STATUS (R186). -/
def execStatus (data : List Byte) (s : State) : Host.Outcome State Fault Refusal :=
  finish (s.takeWithLength data 0 0 fun s => s.respond .ok s.statusData)

end Sys2Proof.Machine
end

