-- ==== Sys2Proof/Machine/Expiries.lean ====
section
/-!
DEFINITION. The other timer expiries: SERVICE_LIMIT (R155), STOP_LIMIT (R165), the window (R106), the
consent hold (R112) and the lease (R119).
-/

namespace Sys2Proof.Machine

/-- SERVICE_LIMIT expires for the request in service (R155). -/
def State.serviceLate (s : State) : State :=
  match s.delivery.service with
  | none => s
  | some v =>
    let s := s.updateService fun v => { v with limit := none }
    let s :=
      if v.orphaned then s
      else s.refuseRequest .reqFirst v.tester v.tag Reason.ecuTimeout v.claim (some v.cls)
        v.data.length v.data
    if v.cls.effecting then s.askStop .serviceTimeout else s.leaveSlot v

/-- SERVICE_LIMIT_EXPIRY (R155). -/
def execServiceLimitExpiry (s : State) : Host.Outcome State Fault Refusal :=
  finish (s.expire (s.delivery.service.bind fun v => v.limit) fun s => s.serviceLate)

/-- STOP_LIMIT expires with the stop outstanding: TIMED_OUT, and STOP_FAILED is taken with the stop's
fields (R165). -/
def State.stopFailed (s : State) : State :=
  match s.fence.stop with
  | none => s
  | some o =>
    let s := s.updateIncident fun i => { i with outcome := some .timedOut }
    s.takeFenceCause .stopFailed
      ⟨.fence .stopFailed, some o.claim, some o.tester, some o.tag, some o.cls, s.guardTime, .opened, none⟩

/-- STOP_LIMIT_EXPIRY (R165). -/
def execStopLimitExpiry (s : State) : Host.Outcome State Fault Refusal :=
  finish (s.expire (s.fence.stop.map fun o => o.limit) fun s => s.stopFailed)

/-- The sponsor part of a claim homed here. -/
def State.sponsor? (s : State) (id : ClaimId) : Option Sponsor :=
  match s.record? id with
  | some r => r.sponsor
  | none => none

/-- The window timer expires: an undecided negotiation is decided LAPSED (R106). -/
def State.windowExpired (s : State) (id : ClaimId) : State :=
  match s.standing id with
  | .here r p =>
    let s := s.updateSponsor id fun q => { q with window := none }
    if undecided r p then s.decideClaim id .lapsed Reason.ok else s
  | _ => s

/-- WINDOW_TIMER_EXPIRY (R106). -/
def execWindowTimerExpiry (claim : ClaimId) (s : State) : Host.Outcome State Fault Refusal :=
  finish (s.expire ((s.sponsor? claim).bind fun p => p.window) fun s => s.windowExpired claim)

/-- The hold timer expires: CANCEL(HOLD_EXPIRED) is offered, and one that is queued sets the cancel sent
mark; the record stands (R112). -/
def State.holdExpired (s : State) (id : ClaimId) : State :=
  match s.record? id with
  | none => s
  | some r =>
    let s := s.updateRecord id fun r => { r with holdTimer := none }
    if (r.state == .pending || r.state == .resuming) && r.consented && !r.cancelSent then
      let told := s.takesProtocol
      let s := s.offerProtocol .cancel (claimReasonPayload id Reason.holdExpired)
      if told then s.updateRecord id fun r => { r with cancelSent := true } else s
    else s

/-- HOLD_TIMER_EXPIRY (R112). -/
def execHoldTimerExpiry (claim : ClaimId) (s : State) : Host.Outcome State Fault Refusal :=
  finish (s.expire ((s.record? claim).bind fun r => r.holdTimer) fun s => s.holdExpired claim)

/-- The lease timer expires: END(EXPIRED) is decided (R119). -/
def State.leaseExpired (s : State) (id : ClaimId) : State :=
  (s.updateSponsor id fun p => { p with leaseTimer := none }).decideEnd id Reason.expired

/-- LEASE_TIMER_EXPIRY (R119). -/
def execLeaseTimerExpiry (claim : ClaimId) (s : State) : Host.Outcome State Fault Refusal :=
  finish (s.expire ((s.sponsor? claim).bind fun p => p.leaseTimer) fun s => s.leaseExpired claim)

end Sys2Proof.Machine
end

