-- ==== Sys2Proof/Machine/FenceFrames.lean ====
section
/-!
DEFINITION. FENCE and LIFT from a tester (R172, R174).
-/

namespace Sys2Proof.Machine

/-- The RESULT of a FENCE or LIFT: tag 0, claim id 0xFFFF (R172, R174). -/
def State.fenceResult (s : State) (k : FrameKind) (t : Tester) (reason : Byte) : State :=
  s.offerResult k t 0x00#8 reason noClaim

/-- The judgement of a FENCE (R172). -/
def State.judgeFence (s : State) (t : Tester) : Byte :=
  if !s.admitted t then Reason.notAdmitted
  else if !s.grants t .fence then Reason.capability
  else if s.fence.fenced && s.fence.hasCause .tester then Reason.already
  else Reason.ok

/-- The passage of a FENCE: judged and answered; TESTER is taken as a fence cause, with the source in
its incident (R172). The RESULT is offered after the frames of the fence entry: the model's choice (log
entry 32). -/
def State.passFence (s : State) (t : Tester) : State :=
  let result := s.judgeFence t
  let s :=
    if result = Reason.ok then
      s.takeFenceCause .tester { s.fenceIncident .tester with tester := some t }
    else s
  s.fenceResult .fence t result

/-- FENCE_FRAME_PASSAGE (R172). -/
def execFenceFramePassage (s : State) : Host.Outcome State Fault Refusal :=
  finish (s.testerPassage .fence everyPayload fun t _ s => s.passFence t)

/-- The judgement of a LIFT (R174). -/
def State.judgeLift (s : State) (t : Tester) : Byte :=
  if !s.admitted t then Reason.notAdmitted
  else if !s.grants t .fence then Reason.capability
  else if s.pins.fenceAsserted then Reason.lineActive
  else if !s.fence.fenced then Reason.already
  else Reason.ok

/-- Is an incident an OPEN FENCE incident? -/
def Incident.openFence (i : Incident) : Bool :=
  match i.cause with
  | .fence _ => i.status == .opened
  | .stop _ => false

/-- The fence is lifted: the steps of R174, in their order (step 4, FAULT, by the line's level). -/
def State.liftFence (s : State) (t : Tester) : State :=
  let s := s.onFence fun f => { f with fenced := false, causes := 0 }
  let s := s.updateIncident fun i =>
    if i.openFence then { i with status := .closed, outcome := some .lifted } else i
  let s := s.onFence fun f => { f with marker := false }
  let s := s.queueNotice ⟨.lifted, s.guardTime, some t, none, noClaim, none, Reason.ok, false⟩
  s.post .lifted (some t) none none 0x00#8

/-- The passage of a LIFT (R174). -/
def State.passLift (s : State) (t : Tester) : State :=
  let result := s.judgeLift t
  let s := if result = Reason.ok then s.liftFence t else s
  s.fenceResult .lift t result

/-- LIFT_PASSAGE (R174). -/
def execLiftPassage (s : State) : Host.Outcome State Fault Refusal :=
  finish (s.testerPassage .lift everyPayload fun t _ s => s.passLift t)

end Sys2Proof.Machine
end

