-- ==== Sys2Proof/Machine/HeldClaims.lean ====
section
/-!
DEFINITION. Held, suspended and ended claims: RENEW, RELEASE, RESUME and CONTINUE (R115 to R117, R122,
R132), BREAK (R129 to R131) and END (R125, R126).
-/

namespace Sys2Proof.Machine

/-! ## Tester frames that name a claim -/

/-- A RESULT answers a tester frame that names a claim and fails a check of R115: tag 0. -/
def State.claimFrameRefused (s : State) (k : FrameKind) (t : Tester) (reason : Byte) (id : ClaimId) : State :=
  s.offerResult k t 0x00#8 reason id

/-- The passage of a tester frame that names a claim: the two checks of R115, then the rule of its
kind. -/
def State.claimFrame (s : State) (k : FrameKind) (t : Tester) (p : List Byte)
    (act : Record → Sponsor → State → State) : State :=
  if !s.admitted t then s.claimFrameRefused k t Reason.notAdmitted (word16At p 0)
  else
    match s.standing (word16At p 0) with
    | .here r q =>
      if r.tester = t then act r q s else s.claimFrameRefused k t Reason.notFound (word16At p 0)
    | _ => s.claimFrameRefused k t Reason.notFound (word16At p 0)

/-- A RENEW by the record's state (R116). -/
def State.renewClaim (s : State) (r : Record) (p : Sponsor) : State :=
  if p.ending || r.state == .pending then s.reportClaim r p r.state.code Reason.claimNotHeld
  else
    let timer := s.startTimer (1000 * p.lease)
    let s := s.updateSponsor r.id fun q => { q with leaseTimer := some timer }
    s.reportClaim r p r.state.code Reason.ok

/-- RENEW_PASSAGE (R116). -/
def execRenewPassage (s : State) : Host.Outcome State Fault Refusal :=
  finish (s.testerPassage .renew everyPayload fun t p s =>
    s.claimFrame .renew t p fun r q s => s.renewClaim r q)

/-- A CONTINUE by the record's state (R117). -/
def State.continueClaim (s : State) (r : Record) (p : Sponsor) : State :=
  if p.ending || r.state != .held then s.reportClaim r p r.state.code Reason.claimNotHeld
  else if p.credit then s.reportClaim r p r.state.code Reason.already
  else
    let s := s.updateSponsor r.id fun q => { q with credit := true }
    s.reportClaim r p r.state.code Reason.ok

/-- CONTINUE_PASSAGE (R117). -/
def execContinuePassage (s : State) : Host.Outcome State Fault Refusal :=
  finish (s.testerPassage .continueClaim everyPayload fun t p s =>
    s.claimFrame .continueClaim t p fun r q s => s.continueClaim r q)

/-- A RELEASE by the record's state (R122). -/
def State.releaseClaim (s : State) (r : Record) (p : Sponsor) : State :=
  if p.ending then s.reportClaim r p r.state.code Reason.already
  else s.decideEnd r.id Reason.released

/-- RELEASE_PASSAGE (R122). -/
def execReleasePassage (s : State) : Host.Outcome State Fault Refusal :=
  finish (s.testerPassage .release everyPayload fun t p s =>
    s.claimFrame .release t p fun r q s => s.releaseClaim r q)

/-- Is a frame an ANNOUNCE naming a claim? -/
def Frame.announces (f : Frame) (id : ClaimId) : Bool :=
  f.kind? == some .announce && word16At f.payload 0 == id

/-- Does an ANNOUNCE this guard offered for a claim stand in the transmit queue or, completed, in the
receive FIFO (R102, R132)? -/
def State.announcePending (s : State) (id : ClaimId) : Bool :=
  s.bus.txQueue.any (fun e => e.frame.announces id) ||
    s.bus.rxFifo.any fun e => e.echo && e.frame.announces id

/-- The second check of R132. -/
def resumeStateReason : ClaimState → Option Byte
  | .suspended => none
  | .held | .resuming => some Reason.already
  | .pending => some Reason.claimNotHeld

/-- The checks of R132 from the third on. -/
def State.resumeRefusalSuspended (s : State) (r : Record) (p : Sponsor) : Option Byte :=
  if s.announcePending r.id then some Reason.already
  else if p.decided then some Reason.notReady
  else if !s.grants r.tester r.cls then some Reason.capability
  else if s.membership.state ≠ .member then some Reason.notReady
  else if s.fence.fenced then some Reason.fenced
  else if !s.conditionsMet r.cls then some Reason.condition
  else none

/-- The checks of R132 in their order. -/
def State.resumeRefusal (s : State) (r : Record) (p : Sponsor) : Option Byte :=
  if p.ending then some Reason.claimNotHeld
  else
    match resumeStateReason r.state with
    | some x => some x
    | none => s.resumeRefusalSuspended r p

/-- The ANNOUNCE of kind RESUME of a record (R102). -/
def Record.announceResume (r : Record) : List Byte :=
  announcePayload r.id .resume r.tester r.cls r.scope r.paced r.oneShot

/-- A RESUME: refused with the failing check's reason (R132), or its ANNOUNCE offered (R102). -/
def State.resumeClaim (s : State) (r : Record) (p : Sponsor) : State :=
  match s.resumeRefusal r p with
  | some reason => s.reportClaim r p r.state.code reason
  | none =>
    let told := s.takesProtocol
    let s := s.offerProtocol .announce r.announceResume
    if told then s else s.reportClaim r p ClaimState.suspended.code Reason.notReady

/-- RESUME_PASSAGE (R132). -/
def execResumePassage (s : State) : Host.Outcome State Fault Refusal :=
  finish (s.testerPassage .resume everyPayload fun t p s =>
    s.claimFrame .resume t p fun r q s => s.resumeClaim r q)

/-! ## BREAK (R129 to R131) -/

/-- A BREAK on a HELD record homed here: the steps of R130, in their order. -/
def State.reportSuspension (s : State) (r : Record) (p : Sponsor) : State :=
  let s := s.handClaimChange r.id (some .breakClaim) Reason.stopped
  let s := s.claimNotice .claimSuspended r Reason.condition
  let s := s.reportClaim r p ClaimState.suspended.code Reason.condition
  s.post .suspended (some r.tester) (some r.id) (some r.cls) Reason.condition

/-- A BREAK on a PENDING record homed here, in the order of R131. -/
def State.reportBreakRefusal (s : State) (r : Record) (p : Sponsor) : State :=
  let s := s.handClaimChange r.id none Reason.claimNotHeld
  let s := s.reportClaim r p statusRefused Reason.condition
  let s := s.count Counter.claimRefused
  s.post .refused none none none Reason.condition

/-- A BREAK applied to a record by its state (R129 to R131). -/
def State.breakRecord (s : State) (r : Record) : State :=
  match r.state with
  | .pending =>
    let s := s.removeRecord r.id
    match r.sponsor with
    | none => s
    | some p => s.reportBreakRefusal r p
  | .held =>
    let s := s.updateRecord r.id Record.suspend
    match r.sponsor with
    | none => s
    | some p => s.reportSuspension r p
  | .resuming =>
    let s := s.updateRecord r.id Record.suspend
    match r.sponsor with
    | none => s
    | some p => s.reportNotResumed r p Reason.condition
  | .suspended => s

/-- The passage of a BREAK (R129); at the sender the break sent mark is cleared (R76). -/
def State.passBreak (s : State) (d : Domain) (e : RxEntry) : State :=
  let id := word16At e.frame.payload 0
  match s.record? id with
  | none => s
  | some r =>
    if !inSet d r.scope then s.count Counter.foreignFrames
    else
      let s := if e.echo then s.updateRecord id fun r => { r with breakSent := false } else s
      s.breakRecord r

/-- BREAK_PASSAGE (R129). -/
def execBreakPassage (s : State) : Host.Outcome State Fault Refusal :=
  finish (s.guardPassage .breakClaim (fun _ => true) fun d e s => s.passBreak d e)

/-! ## END (R125, R126) -/

/-- Is the reason of an END one of the four (R125)? -/
def endReasonOk (b : Byte) : Bool :=
  b == Reason.released || b == Reason.expired || b == Reason.gone || b == Reason.done

/-- The passage of an END (R125). -/
def State.passEnd (s : State) (d : Domain) (p : List Byte) : State :=
  if homeOf (word16At p 0) = d.val ∧ endReasonOk (byteAt p 2) = true then
    match s.record? (word16At p 0) with
    | none => s
    | some r => s.endRecord r (byteAt p 2)
  else s.count Counter.foreignFrames

/-- END_PASSAGE (R125). -/
def execEndPassage (s : State) : Host.Outcome State Fault Refusal :=
  finish (s.guardPassage .endClaim (fun _ => true) fun d e s => s.passEnd d e.frame.payload)

end Sys2Proof.Machine
end

