-- ==== Sys2Proof/Machine/MembershipPassages.lean ====
section
/-!
DEFINITION. Membership passages: JOIN, PRESENT and REVOKE_DOMAIN (R34, R37 to R42).
-/

namespace Sys2Proof.Machine

/-- Set the roster entry of a domain at the passage of its JOIN or PRESENT (R34); a JOIN sets the start
kind as well. -/
def State.setRoster (s : State) (d : Domain) (digest : BitVec 32) (kind : Option StartKind) : State :=
  let now := s.guardTime
  let own := s.config.digest
  s.onMembership fun m =>
    { m with
      roster := m.roster.set d.val
        ⟨if digest = own then .present else .foreign, some digest,
          kind.orElse fun _ => m.roster[d].startKind, some now⟩ d.isLt }

/-- Does the domain field at an offset name the domain of the source (R34, R42)? -/
def domainFieldOk (d : Domain) (p : List Byte) (i : Nat) : Bool := byteAt p i == nat8 d.val

/-- The start kind of a well-formed JOIN from domain `d` (R34). -/
def joinStart (d : Domain) (p : List Byte) : Option StartKind :=
  if domainFieldOk d p 4 then StartKind.ofCode (byteAt p 5) else none

/-- Is a COMPLETED clearing frame covering (R35)? -/
def Clearing.covers (c : Clearing) : Bool := c.progress == .completed true

/-- Is a clearing frame COMPLETED (R35)? -/
def Clearing.isCompleted (c : Clearing) : Bool := !c.toComplete

/-- The outstanding clearing frame that passes: the first COMPLETED one of its kind (R35). -/
def State.passingClearing (s : State) (join : Bool) : Option Clearing :=
  s.membership.outstanding.find? fun c => c.isJoin == join && c.isCompleted

/-- Is the passage of an own clearing frame a covering passage (R35)? -/
def State.coveringPassage (s : State) (join : Bool) : Bool :=
  match s.passingClearing join with
  | some c => c.covers
  | none => false

/-- The clearing frame that passes leaves the outstanding record (R35). -/
def State.leaveOutstanding (s : State) (join : Bool) : State :=
  s.onMembership fun m =>
    { m with outstanding := m.outstanding.eraseP fun c => c.isJoin == join && c.isCompleted }

/-- Offer REVOKE_DOMAIN(own, RESYNC) if no other clearing frame is outstanding (R37, R38). -/
def State.resyncAgain (s : State) : State :=
  if s.membership.outstanding.isEmpty then s.offerRevoke .resync else s

/-- Offer PRESENT; one that is not queued is owed (R40, R41). -/
def State.offerPresent (s : State) : State :=
  let told := s.takesProtocol
  let s := s.onMembership fun m => { m with presentOwed := !told }
  s.offerProtocol .present (presentPayload s.config.digest s.config.ownDomain)

/-- Set the membership state. -/
def State.setMember (s : State) (m : MemberState) : State :=
  s.onMembership fun x => { x with state := m }

/-- The passage of the guard's own JOIN (R37). -/
def State.ownJoin (s : State) (d : Domain) (p : List Byte) : State :=
  let covering := s.coveringPassage true
  let s := s.leaveOutstanding true
  let s := s.setRoster d (word32At p 0) (StartKind.ofCode (byteAt p 5))
  let s := s.clearRecords s.config.ownDomain Reason.peerRestart
  if covering then s.setMember .member else (s.setMember .resync).resyncAgain

/-- OWN_JOIN_PASSAGE (R37). -/
def execOwnJoinPassage (s : State) : Host.Outcome State Fault Refusal :=
  finish (s.guardPassage .join (fun e => e.echo) fun d e s => s.ownJoin d e.frame.payload)

/-- The passage of a peer's JOIN (R34, R40). -/
def State.peerJoin (s : State) (d : Domain) (p : List Byte) : State :=
  match joinStart d p with
  | none => s.count Counter.foreignFrames
  | some k =>
    let s := s.setRoster d (word32At p 0) (some k)
    let s := s.clearRecords d Reason.peerRestart
    match s.membership.state with
    | .member => s.offerPresent
    | .resync => s.onMembership fun m => { m with presentOwed := true }
    | _ => s

/-- PEER_JOIN_PASSAGE (R40). -/
def execPeerJoinPassage (s : State) : Host.Outcome State Fault Refusal :=
  finish (s.guardPassage .join (fun e => !e.echo) fun d e s => s.peerJoin d e.frame.payload)

/-- The passage of a PRESENT: a peer's sets its roster entry, the guard's own changes nothing (R41). -/
def State.passPresent (s : State) (d : Domain) (e : RxEntry) : State :=
  if e.echo then s
  else if domainFieldOk d e.frame.payload 4 then s.setRoster d (word32At e.frame.payload 0) none
  else s.count Counter.foreignFrames

/-- PRESENT_PASSAGE (R41). -/
def execPresentPassage (s : State) : Host.Outcome State Fault Refusal :=
  finish (s.guardPassage .present (fun _ => true) fun d e s => s.passPresent d e)

/-- The REVOKED_DOMAIN trail entry: the domain in the upper four bits, the reason in the lower four
(R188). -/
def State.postRevokedDomain (s : State) (d : Domain) (reason : Byte) : State :=
  s.post .revokedDomain none none none (nat8 (16 * d.val) ||| reason)

/-- The membership state after the passage of the guard's own REVOKE_DOMAIN (R38). -/
def State.afterOwnRevoke (s : State) (covering : Bool) : State :=
  match s.membership.state with
  | .resync =>
    if covering then
      let s := s.setMember .member
      if s.membership.presentOwed then s.offerPresent else s
    else s.resyncAgain
  | _ => s

/-- The passage of the guard's own REVOKE_DOMAIN (R38). -/
def State.ownRevoke (s : State) (d : Domain) (p : List Byte) : State :=
  let covering := s.coveringPassage false
  let s := s.leaveOutstanding false
  let s := s.clearRecords s.config.ownDomain (byteAt p 1)
  let s := s.postRevokedDomain d (byteAt p 1)
  s.afterOwnRevoke covering

/-- OWN_REVOKE_DOMAIN_PASSAGE (R38). -/
def execOwnRevokeDomainPassage (s : State) : Host.Outcome State Fault Refusal :=
  finish (s.guardPassage .revokeDomain (fun e => e.echo) fun d e s => s.ownRevoke d e.frame.payload)

/-- Is a peer's REVOKE_DOMAIN well formed (R42)? -/
def revokeOk (d : Domain) (p : List Byte) : Bool :=
  domainFieldOk d p 0 && (byteAt p 1 == Reason.revoked || byteAt p 1 == Reason.resync)

/-- The passage of a peer's REVOKE_DOMAIN (R42). -/
def State.peerRevoke (s : State) (d : Domain) (p : List Byte) : State :=
  if revokeOk d p then (s.clearRecords d (byteAt p 1)).postRevokedDomain d (byteAt p 1)
  else s.count Counter.foreignFrames

/-- PEER_REVOKE_DOMAIN_PASSAGE (R42). -/
def execPeerRevokeDomainPassage (s : State) : Host.Outcome State Fault Refusal :=
  finish (s.guardPassage .revokeDomain (fun e => !e.echo) fun d e s => s.peerRevoke d e.frame.payload)

end Sys2Proof.Machine
end

