-- ==== Sys2Proof/Machine/Negotiation.lean ====
section
/-!
DEFINITION. Negotiating a claim: CLAIM at the sponsor (R93 to R97), the evaluation of ANNOUNCE (R98 to
R104), votes (R107 to R109), VERDICT (R110, R111), CANCEL (R113), and the window and hold timers (R106,
R112).
-/

namespace Sys2Proof.Machine

/-! ## CLAIM (R93 to R97) -/

/-- The granted lease of a requested lease (R93). -/
def Settings.grantedLease (c : Settings) (requested : Nat) : Nat :=
  if requested = 0 then c.timing.leaseMax else min requested c.timing.leaseMax

/-- The reason of a roster entry that is not PRESENT (R94, sixth check). -/
def rosterReason : PeerState → Option Byte
  | .present => none
  | .foreign => some Reason.mismatch
  | .absent => some Reason.peerAbsent

/-- The sixth check: the first scope domain, ascending, whose entry is not PRESENT decides (R94). -/
def State.scopeRefusal (s : State) (scope : DomainSet) : Option Byte :=
  (allDomains.filter fun d => inSet d scope).findSome? fun d =>
    rosterReason (s.membership.roster[d]).state

/-- The claimable class of a class field: 3 to 7 (R94, third check). -/
def claimClass (b : Byte) : Option Class :=
  match Class.ofNumber b.toNat with
  | some c => if c.effecting then some c else none
  | none => none

/-- The checks of R94 from the fourth on, for a class that passed the third. -/
def State.claimRefusalFor (s : State) (t : Tester) (c : Class) : Option Byte :=
  if s.fence.fenced then some Reason.fenced
  else if Config.claimLimit ≤ s.claimCount t then some Reason.claimLimit
  else
    match s.scopeRefusal (s.config.scope c s.config.ownDomain) with
    | some r => some r
    | none =>
      if !s.conditionsMet c then some Reason.condition
      else if !s.hasRoom then some Reason.tableFull
      else if s.conflicts c then some Reason.conflict
      else none

/-- The checks of R94 in their order: the reason of a refusal, or the class of an accepted claim. -/
def State.judgeClaim (s : State) (t : Tester) (cls : Byte) : Byte ⊕ Class :=
  if s.membership.state ≠ .member then .inl Reason.notReady
  else if !s.admitted t then .inl Reason.notAdmitted
  else
    match claimClass cls with
    | none => .inl Reason.capability
    | some c =>
      if !s.grants t c then .inl Reason.capability
      else
        match s.claimRefusalFor t c with
        | some r => .inl r
        | none => .inr c

/-- A CLAIM refused at its passage (R95): reported whatever the tester's admission (R114). -/
def State.refuseClaim (s : State) (t : Tester) (p : List Byte) (reason : Byte) : State :=
  let s := s.offerStatus .claimStatus t
    (claimStatusPayload noClaim (byteAt p 4) statusRefused reason (byteAt p 0) 0)
  let s := s.count Counter.claimRefused
  s.post .refused (some t) none (Class.ofNumber (byteAt p 0).toNat) reason

/-- Is the claim id of a sequence value held by no record and no reservation (R96)? -/
def State.seqFree (s : State) (q : BitVec 12) : Bool :=
  let id := claimIdOf s.config.ownDomain q
  (s.record? id).isNone && (s.reservation? id).isNone

/-- The first free sequence value from `q` upward, wrapping, in at most `n` further steps (R96). -/
def freeSeqFrom (free : BitVec 12 → Bool) : Nat → BitVec 12 → BitVec 12
  | 0, q => q
  | n + 1, q => if free q then q else freeSeqFrom free n (q + 1)

/-- The sequence value that the next accepted CLAIM takes (R96). -/
def State.nextFreeSeq (s : State) : BitVec 12 := freeSeqFrom s.seqFree 25 s.hold.nextSeq

/-- The reservation that a CLAIM accepted for a class makes (R93, R96). -/
def State.newReservation (s : State) (t : Tester) (p : List Byte) (c : Class) : Reservation where
  id := claimIdOf s.config.ownDomain s.nextFreeSeq
  tester := t
  cls := c
  scope := s.config.scope c s.config.ownDomain
  paced := (byteAt p 3).getLsbD 0
  oneShot := (byteAt p 3).getLsbD 1
  lease := s.config.grantedLease (word16At p 1).toNat
  tag := byteAt p 4

/-- The ANNOUNCE of kind NEW of a reservation (R97). -/
def Reservation.announce (v : Reservation) : List Byte :=
  announcePayload v.id .fresh v.tester v.cls v.scope v.paced v.oneShot

/-- Make a reservation; the next sequence value is one above the value taken (R96). -/
def State.reserve (s : State) (v : Reservation) : State :=
  let next := s.nextFreeSeq + 1
  s.onHold fun h => { h with reservations := h.reservations ++ [v], nextSeq := next }

/-- The ANNOUNCE of an accepted CLAIM was not queued (R97). -/
def State.announceLost (s : State) (v : Reservation) : State :=
  let s := s.releaseReservation v.id
  let s := s.offerClaimStatus v.tester v.id v.tag statusRefused Reason.notReady v.cls v.lease
  let s := s.count Counter.claimRefused
  s.post .refused none (some v.id) none Reason.notReady

/-- A CLAIM accepted (R96, R97). -/
def State.acceptClaim (s : State) (t : Tester) (p : List Byte) (c : Class) : State :=
  let v := s.newReservation t p c
  let s := s.reserve v
  let told := s.takesProtocol
  let s := s.offerProtocol .announce v.announce
  if told then s else s.announceLost v

/-- The passage of a CLAIM at the sponsor (R93 to R97). -/
def State.passClaim (s : State) (t : Tester) (p : List Byte) : State :=
  match s.judgeClaim t (byteAt p 0) with
  | .inl reason => s.refuseClaim t p reason
  | .inr c => s.acceptClaim t p c

/-- CLAIM_PASSAGE (R94). -/
def execClaimPassage (s : State) : Host.Outcome State Fault Refusal :=
  finish (s.testerPassage .claim everyPayload fun t p s => s.passClaim t p)

/-! ## ANNOUNCE (R98 to R104) -/

/-- The fields of a well-formed ANNOUNCE (R20, R98). -/
structure Announce where
  id : ClaimId
  tester : Tester
  cls : Class
  scope : DomainSet
  paced : Bool
  oneShot : Bool
  deriving DecidableEq, Repr

/-- The announced scope (R20). -/
def announceScope (p : List Byte) : DomainSet := domainSetAt p 5

/-- The kind field of an ANNOUNCE, CONSENT or OBJECT (R20). -/
def announceKindAt (p : List Byte) : Option AnnounceKind :=
  if byteAt p 2 = AnnounceKind.fresh.code then some .fresh
  else if byteAt p 2 = AnnounceKind.resume.code then some .resume
  else none

/-- An ANNOUNCE read from its payload; none for a malformed one from domain `d` (R98). -/
def readAnnounce (d : Domain) (p : List Byte) : Option Announce :=
  if (announceKindAt p).isSome && homeOf (word16At p 0) == d.val then
    match testerOf (byteAt p 3), claimClass (byteAt p 4) with
    | some t, some c =>
      some ⟨word16At p 0, t, c, announceScope p, (byteAt p 7).getLsbD 0, (byteAt p 7).getLsbD 1⟩
    | _, _ => none
  else none

/-- An ANNOUNCE of one kind passes under its own row; one whose kind field is neither passes under
either (log entry 5). -/
def announceRow (k : AnnounceKind) (e : RxEntry) : Bool :=
  match announceKindAt e.frame.payload with
  | some x => x == k
  | none => true

/-- Offer CONSENT, or OBJECT with a reason (R98). -/
def State.vote (s : State) (id : ClaimId) (k : AnnounceKind) (reason : Option Byte) : State :=
  match reason with
  | none => s.offerProtocol .consent (votePayload id k Reason.ok)
  | some r => s.offerProtocol .object (votePayload id k r)

/-- The record that a consent to an ANNOUNCE of kind NEW creates (R75, R76). -/
def Announce.record (a : Announce) (hold : Option Timer) (p : Option Sponsor) : Record where
  id := a.id
  tester := a.tester
  cls := a.cls
  scope := a.scope
  state := .pending
  paced := a.paced
  oneShot := a.oneShot
  consented := true
  holdTimer := hold
  breakSent := false
  cancelSent := false
  sponsor := p

/-- Checks 4 and 6 of R99 at the sponsor, whose fifth check is its reservation (R88, R100). -/
def State.sponsorConsent (s : State) (c : Class) : Option Byte :=
  if !s.conditionsMet c then some Reason.condition
  else if s.conflicts c then some Reason.conflict
  else none

/-- The consent rule for an ANNOUNCE of kind NEW at a voter: conditions, room, compatibility (R88). -/
def State.voterConsent (s : State) (c : Class) : Option Byte :=
  if !s.conditionsMet c then some Reason.condition
  else if !s.hasRoom then some Reason.tableFull
  else if s.conflicts c then some Reason.conflict
  else none

/-- The third check of R99 at a voter: the home is PRESENT, the scope is this guard's lookup, and no
record has the id. -/
def State.newMatches (s : State) (home : Domain) (a : Announce) : Bool :=
  (s.membership.roster[home]).state == .present && a.scope == s.config.scope a.cls home &&
    (s.record? a.id).isNone

/-- The checks of R99 in their order: the reason of the objection, if there is one. -/
def State.voterNewReason (s : State) (home : Domain) (a : Announce) : Option Byte :=
  if s.membership.state ≠ .member then some Reason.notReady
  else if s.fence.fenced then some Reason.fenced
  else if !s.newMatches home a then some Reason.mismatch
  else s.voterConsent a.cls

/-- A voter evaluates an ANNOUNCE of kind NEW (R99). -/
def State.voterNew (s : State) (home : Domain) (a : Announce) : State :=
  match s.voterNewReason home a with
  | some r => s.vote a.id .fresh (some r)
  | none =>
    let s := s.createRecord
      (a.record (some (s.startTimer s.config.timing.consentHold)) none)
    s.vote a.id .fresh none

/-- The checks of R100 in their order. -/
def State.sponsorNewReason (s : State) (v : Reservation) (a : Announce) : Option Byte :=
  if s.membership.state ≠ .member then some Reason.notReady
  else if !s.admitted v.tester then some Reason.notAdmitted
  else if s.fence.fenced then some Reason.fenced
  else s.sponsorConsent a.cls

/-- The sponsor part built from the reservation (R77, R100). -/
def Reservation.sponsorPart (v : Reservation) (own : Domain) (window : Option Timer) : Sponsor where
  consentSet := onlyDomain own
  decided := false
  window := window
  lease := v.lease
  leaseTimer := none
  ending := false
  op := .idle
  credit := false
  tag := v.tag

/-- The sponsor consents to its own ANNOUNCE of kind NEW (R100). -/
def State.sponsorConsents (s : State) (v : Reservation) (a : Announce) : State :=
  let own := s.config.ownDomain
  let alone := a.scope == onlyDomain own
  let window := if alone then none else some (s.startTimer s.config.timing.claimWindow)
  let s := s.releaseReservation a.id
  let s := s.createRecord (a.record none (some (v.sponsorPart own window)))
  let s := s.offerClaimStatus a.tester a.id v.tag ClaimState.pending.code Reason.ok a.cls v.lease
  if alone then s.decideClaim a.id .granted Reason.ok else s

/-- The sponsor's own evaluation fails: no record, REFUSED decided (R100, R105). -/
def State.sponsorRefuses (s : State) (v : Reservation) (a : Announce) (reason : Byte) : State :=
  let s := s.releaseReservation a.id
  let s := s.offerProtocol .verdict (verdictPayload a.id .refused reason)
  let s := s.offerClaimStatus a.tester a.id v.tag statusRefused reason a.cls v.lease
  let s := s.count Counter.claimRefused
  s.post .refused none none none reason

/-- The sponsor evaluates its own ANNOUNCE of kind NEW (R100). -/
def State.sponsorNew (s : State) (a : Announce) : State :=
  match s.reservation? a.id with
  | none => s
  | some v =>
    match s.sponsorNewReason v a with
    | none => s.sponsorConsents v a
    | some r => s.sponsorRefuses v a r

/-- The passage of an ANNOUNCE at a guard in its scope: a malformed one is dropped and counted; the
home guard evaluates its own, every other guard votes (R98). -/
def State.passAnnounce (s : State) (d : Domain) (p : List Byte)
    (sponsor : Announce → State → State) (voter : Announce → State → State) : State :=
  if inSet s.config.ownDomain (announceScope p) then
    match readAnnounce d p with
    | none => s.count Counter.foreignFrames
    | some a => if d = s.config.ownDomain then sponsor a s else voter a s
  else s

/-- ANNOUNCE_NEW_PASSAGE (R99, R100). -/
def execAnnounceNewPassage (s : State) : Host.Outcome State Fault Refusal :=
  finish (s.guardPassage .announce (announceRow .fresh) fun d e s =>
    s.passAnnounce d e.frame.payload (fun a s => s.sponsorNew a) (fun a s => s.voterNew d a))

/-- Is the record of a claim id SUSPENDED here? -/
def State.suspendedRecord (s : State) (id : ClaimId) : Option Record :=
  match s.record? id with
  | some r => if r.state = .suspended then some r else none
  | none => none

/-- The first, second and fourth checks of R103. -/
def State.resumeReason (s : State) (c : Class) : Option Byte :=
  if s.membership.state ≠ .member then some Reason.notReady
  else if s.fence.fenced then some Reason.fenced
  else if !s.conditionsMet c then some Reason.condition
  else none

/-- The checks of R103 in their order. -/
def State.voterResumeReason (s : State) (id : ClaimId) : Option Byte :=
  if s.membership.state ≠ .member then some Reason.notReady
  else if s.fence.fenced then some Reason.fenced
  else
    match s.suspendedRecord id with
    | none => some Reason.mismatch
    | some r => if s.conditionsMet r.cls then none else some Reason.condition

/-- A voter evaluates an ANNOUNCE of kind RESUME (R103). -/
def State.voterResume (s : State) (a : Announce) : State :=
  let reason := s.voterResumeReason a.id
  let hold := if reason.isNone then some (s.startTimer s.config.timing.consentHold) else none
  let s :=
    match s.suspendedRecord a.id with
    | none => s
    | some _ => s.updateRecord a.id fun r =>
        { r with state := .resuming, consented := reason.isNone, holdTimer := hold }
  s.vote a.id .resume reason

/-- The sponsor consents to its own ANNOUNCE of kind RESUME (R104): the record is RESUMING, and unless
ENDING is set (R127) the negotiation begins. -/
def State.sponsorResumes (s : State) (r : Record) (p : Sponsor) : State :=
  let own := s.config.ownDomain
  let alone := r.scope == onlyDomain own
  let window := if alone || p.ending then none else some (s.startTimer s.config.timing.claimWindow)
  let s := s.updateRecord r.id fun x => { x with state := .resuming, consented := true }
  let s := s.updateSponsor r.id fun q => { q with consentSet := onlyDomain own, window := window }
  if p.ending then s
  else
    let s := s.reportClaim r p ClaimState.resuming.code Reason.ok
    if alone then s.decideClaim r.id .resumed Reason.ok else s

/-- The sponsor's own evaluation of a RESUME fails (R104): RESUMING, consented clear, REFUSED decided
unless ENDING is set (R127). -/
def State.sponsorResumeFails (s : State) (r : Record) (p : Sponsor) (reason : Byte) : State :=
  let s := s.updateRecord r.id fun x => { x with state := .resuming, consented := false }
  if p.ending then s else s.decideClaim r.id .refused reason

/-- The sponsor evaluates its own ANNOUNCE of kind RESUME (R104). -/
def State.sponsorResume (s : State) (a : Announce) : State :=
  match s.standing a.id with
  | .here r p =>
    if r.state = .suspended then
      match s.resumeReason r.cls with
      | none => s.sponsorResumes r p
      | some reason => s.sponsorResumeFails r p reason
    else s
  | _ => s

/-- ANNOUNCE_RESUME_PASSAGE (R103, R104). -/
def execAnnounceResumePassage (s : State) : Host.Outcome State Fault Refusal :=
  finish (s.guardPassage .announce (announceRow .resume) fun d e s =>
    s.passAnnounce d e.frame.payload (fun a s => s.sponsorResume a) (fun a s => s.voterResume a))

/-! ## Votes (R107 to R109) -/

/-- Does the kind field of a vote match the record (R107)? -/
def voteMatches (p : List Byte) (r : Record) : Bool :=
  match announceKindAt p, r.state with
  | some .fresh, .pending => true
  | some .resume, .resuming => true
  | _, _ => false

/-- The passage of a vote from a domain: at the home guard ill-formed, current or late, elsewhere
without effect (R107). -/
def State.passVote (s : State) (d : Domain) (p : List Byte)
    (current : Record → Sponsor → State → State) : State :=
  if homeOf (word16At p 0) = s.config.ownDomain.val then
    match s.record? (word16At p 0) with
    | none => s.count Counter.lateVotes
    | some r =>
      if !inSet d r.scope || d == s.config.ownDomain then s.count Counter.foreignFrames
      else
        match r.sponsor with
        | none => s.count Counter.lateVotes
        | some q =>
          if undecided r q && voteMatches p r then current r q s else s.count Counter.lateVotes
  else s

/-- The outcome that lets a claim be held: GRANTED for a PENDING record, RESUMED for a RESUMING one
(R108). -/
def heldOutcome (r : Record) : VerdictOutcome :=
  if r.state = .pending then .granted else .resumed

/-- A current CONSENT (R108). -/
def State.applyConsent (s : State) (d : Domain) (r : Record) (p : Sponsor) : State :=
  let consents := p.consentSet ||| onlyDomain d
  let s := s.updateSponsor r.id fun q => { q with consentSet := consents }
  if consents = r.scope then s.decideClaim r.id (heldOutcome r) Reason.ok else s

/-- CONSENT_PASSAGE (R107, R108). -/
def execConsentPassage (s : State) : Host.Outcome State Fault Refusal :=
  finish (s.guardPassage .consent (fun _ => true) fun d e s =>
    s.passVote d e.frame.payload fun r p s => s.applyConsent d r p)

/-- OBJECT_PASSAGE (R107, R109): a current OBJECT decides REFUSED with its reason. -/
def execObjectPassage (s : State) : Host.Outcome State Fault Refusal :=
  finish (s.guardPassage .object (fun _ => true) fun d e s =>
    s.passVote d e.frame.payload fun r _ s => s.decideClaim r.id .refused (byteAt e.frame.payload 3))

/-! ## VERDICT (R110, R111) -/

/-- The outcome field of a VERDICT (R20). -/
def verdictOutcomeAt (p : List Byte) : Option VerdictOutcome :=
  if byteAt p 2 = VerdictOutcome.granted.code then some .granted
  else if byteAt p 2 = VerdictOutcome.resumed.code then some .resumed
  else if byteAt p 2 = VerdictOutcome.refused.code then some .refused
  else if byteAt p 2 = VerdictOutcome.lapsed.code then some .lapsed
  else none

/-- A VERDICT of one outcome passes under its own row; one with another outcome field passes under any
(log entry 5). -/
def verdictRow (o : VerdictOutcome) (e : RxEntry) : Bool :=
  match verdictOutcomeAt e.frame.payload with
  | some x => x == o
  | none => true

/-- The passage of a VERDICT: dropped and counted when malformed; at the home guard it clears the
verdict decided mark; a guard holding the record applies it (R110). -/
def State.passVerdict (s : State) (d : Domain) (p : List Byte) (apply : Record → State → State) : State :=
  if homeOf (word16At p 0) = d.val ∧ (verdictOutcomeAt p).isSome then
    let s := s.updateSponsor (word16At p 0) fun q => { q with decided := false }
    match s.record? (word16At p 0) with
    | none => s
    | some r => apply r s
  else s.count Counter.foreignFrames

/-- A record becomes HELD: consented cleared, hold timer stopped; at the home guard the window stopped,
the lease started unless ENDING is set, and the pace credit 1 (R110, R118, R127). -/
def Record.becomeHeld (lease : Nat → Timer) (r : Record) : Record :=
  { r with
    state := .held
    consented := false
    holdTimer := none
    sponsor := r.sponsor.map fun p =>
      { p with
        window := none
        leaseTimer := if p.ending then none else some (lease p.lease)
        credit := true } }

/-- A claim becomes HELD, with the home guard's actions (R110). -/
def State.holdClaim (s : State) (r : Record) (notice : NoticeKind) (event : TrailEvent) : State :=
  let now := s.guardTime
  let s := s.updateRecord r.id (Record.becomeHeld fun lease => ⟨now, 1000 * lease⟩)
  match r.sponsor with
  | none => s
  | some p =>
    let s := s.reportClaim r p ClaimState.held.code Reason.ok
    let s := s.claimNotice notice r Reason.ok
    s.post event (some r.tester) (some r.id) (some r.cls) 0x00#8

/-- VERDICT_GRANTED (R110). -/
def execVerdictGranted (s : State) : Host.Outcome State Fault Refusal :=
  finish (s.guardPassage .verdict (verdictRow .granted) fun d e s =>
    s.passVerdict d e.frame.payload fun r s =>
      if r.state = .pending then s.holdClaim r .claimBegin .granted else s)

/-- VERDICT_RESUMED (R110). -/
def execVerdictResumed (s : State) : Host.Outcome State Fault Refusal :=
  finish (s.guardPassage .verdict (verdictRow .resumed) fun d e s =>
    s.passVerdict d e.frame.payload fun r s =>
      if r.state = .resuming then s.holdClaim r .claimResumed .resumed else s)

/-- A negotiation is settled against the claim by a VERDICT or a CANCEL (R111, R113). -/
def State.settleAgainst (s : State) (r : Record) (reason : Byte) (entryClaim : Option ClaimId) : State :=
  match r.state with
  | .pending =>
    let s := s.removeRecord r.id
    match r.sponsor with
    | none => s
    | some p => s.reportRefusal r p reason entryClaim
  | .resuming =>
    let s := s.updateRecord r.id Record.suspend
    match r.sponsor with
    | none => s
    | some p => s.reportNotResumed r p reason
  | _ => s

/-- VERDICT_REFUSED (R110, R111): the reason told is the VERDICT's. -/
def execVerdictRefused (s : State) : Host.Outcome State Fault Refusal :=
  finish (s.guardPassage .verdict (verdictRow .refused) fun d e s =>
    s.passVerdict d e.frame.payload fun r s =>
      s.settleAgainst r (byteAt e.frame.payload 3) (some r.id))

/-- VERDICT_LAPSED (R110, R111): the reason told is LAPSED. -/
def execVerdictLapsed (s : State) : Host.Outcome State Fault Refusal :=
  finish (s.guardPassage .verdict (verdictRow .lapsed) fun d e s =>
    s.passVerdict d e.frame.payload fun r s => s.settleAgainst r Reason.lapsed (some r.id))

/-! ## CANCEL (R113) -/

/-- The passage of a CANCEL (R113); at the sender the cancel sent mark is cleared (R76). -/
def State.passCancel (s : State) (d : Domain) (e : RxEntry) : State :=
  let id := word16At e.frame.payload 0
  match s.record? id with
  | none => s
  | some r =>
    if !inSet d r.scope || homeOf id == d.val then s.count Counter.foreignFrames
    else
      let s := if e.echo then s.updateRecord id fun r => { r with cancelSent := false } else s
      s.settleAgainst r Reason.cancelled none

/-- CANCEL_PASSAGE (R113). -/
def execCancelPassage (s : State) : Host.Outcome State Fault Refusal :=
  finish (s.guardPassage .cancel (fun _ => true) fun d e s => s.passCancel d e)

end Sys2Proof.Machine
end

