-- ==== Sys2Proof/Machine/Requests.lean ====
section
/-!
DEFINITION. Requests from the backbone: classification (R61 to R66), the checks of REQ_FIRST (R139,
R140), assembly (R138, R141, R142), completion (R69, R70, R143), QUEUE_WAIT (R145) and ABORT_REQ (R158).
-/

namespace Sys2Proof.Machine

/-! ## Classification (R63 to R65) -/

/-- The window of a request of a total length: its first 16 data bytes (R63). -/
def requestWindow (p : List Byte) (total : Nat) : List Byte := takeZero p 5 (min 16 total)

/-- Does a pattern entry match a request (R64)? A masked position past the end holds no byte. -/
def Pattern.fits (e : Pattern) (window : List Byte) (total : Nat) : Bool :=
  e.minLength ≤ total &&
    (List.range 16).all fun i => !e.mask.getLsbD i || window[i]? == e.values[i]?

/-- The better of a winner so far and a later entry: the later one only by a higher class (R65). -/
def betterPattern (best : Option Pattern) (e : Pattern) : Option Pattern :=
  match best with
  | none => some e
  | some b => if b.cls.number < e.cls.number then some e else some b

/-- The winning entry: highest class, then lowest index (R65). -/
def winningPattern (ps : List Pattern) (window : List Byte) (total : Nat) : Option Pattern :=
  (ps.filter fun e => e.fits window total).foldl betterPattern none

/-! ## The checks of REQ_FIRST (R139) -/

/-- The total length field of a REQ_FIRST (R21). -/
def reqTotal (p : List Byte) : Nat := (word16At p 1).toNat

/-- The claim id field of a REQ_FIRST (R21). -/
def reqClaim (p : List Byte) : ClaimId := word16At p 3

/-- Is a tag in use for a tester (R139, second check)? -/
def State.tagInUse (s : State) (t : Tester) (tag : Byte) : Bool :=
  (match s.memory.lanes[t] with
    | .assembling a => a.tag == tag
    | _ => false) ||
  s.delivery.queue.any (fun e => e.tester == t && e.tag == tag) ||
  (match s.delivery.service with
    | some v => v.tester == t && v.tag == tag
    | none => false)

/-- Does a claim allow an effecting request (R139, seventh check)? -/
def State.effectingClaimOk (s : State) (t : Tester) (c : Class) (id : ClaimId) : Bool :=
  match s.standing id with
  | .here r p =>
    r.tester == t && r.cls == c && (r.state == .pending || r.state == .held) && !p.ending
  | _ => false

/-- Does a claim allow a read request that names it (R139, eighth check)? -/
def State.readClaimOk (s : State) (t : Tester) (id : ClaimId) : Bool :=
  match s.standing id with
  | .here r p => r.tester == t && r.state == .held && !p.ending
  | _ => false

/-- The seventh and eighth checks of R139. -/
def State.claimCheck (s : State) (t : Tester) (c : Class) (id : ClaimId) : Option Byte :=
  if c.effecting then
    if id = noClaim then some Reason.noClaim
    else if s.effectingClaimOk t c id then none else some Reason.claimNotHeld
  else if id = noClaim then none
  else if s.readClaimOk t id then none else some Reason.claimNotHeld

/-- Queue places that ASSEMBLING lanes hold (R138). -/
def State.placesHeld (s : State) : Nat :=
  s.memory.lanes.toList.countP fun l => match l with | .assembling _ => true | _ => false

/-- The tenth check of R139. -/
def State.queueHasPlace (s : State) (t : Tester) : Bool :=
  s.delivery.queue.countP (fun e => e.tester == t) < Config.queuePerTester &&
    s.delivery.queue.length + s.placesHeld < Config.queueEntries

/-- The checks of R139 from the sixth on, for a classified request. -/
def State.reqRefusalFor (s : State) (t : Tester) (c : Class) (total : Nat) (id : ClaimId) : Option Byte :=
  if !s.grants t c then some Reason.capability
  else
    match s.claimCheck t c id with
    | some r => some r
    | none =>
      if c.effecting && s.fence.fenced then some Reason.fenced
      else if !s.queueHasPlace t then some Reason.queueFull
      else if s.memory.free < blocksFor total + Config.blockReserve then some Reason.memoryFull
      else none

/-- Is the source's lane FREE (R139, third check)? -/
def State.laneFree (s : State) (t : Tester) : Bool := s.memory.lanes[t] == .free

/-- The checks of R139 in their order: the refusal with the request's class, or the winning entry. -/
def State.judgeRequest (s : State) (t : Tester) (p : List Byte) : (Byte × Option Class) ⊕ Pattern :=
  if !s.admitted t then .inl (Reason.notAdmitted, none)
  else if s.tagInUse t (byteAt p 0) then .inl (Reason.duplicateTag, none)
  else if !s.laneFree t then .inl (Reason.busyLane, none)
  else if !(1 ≤ reqTotal p && reqTotal p ≤ Config.longestMessage) then .inl (Reason.tooLong, none)
  else
    match winningPattern s.config.patterns (requestWindow p (reqTotal p)) (reqTotal p) with
    | none => .inl (Reason.unclassified, none)
    | some e =>
      match s.reqRefusalFor t e.cls (reqTotal p) (reqClaim p) with
      | some r => .inl (r, some e.cls)
      | none => .inr e

/-! ## Lanes (R138, R140, R141) -/

/-- A gap timer started now (R138). -/
def State.gapTimer (s : State) : Timer := s.startTimer s.config.timing.segmentGap

/-- A REQ_FIRST first ends a DISCARDING state of the lane (R139). -/
def State.endDiscarding (s : State) (t : Tester) : State :=
  match s.memory.lanes[t] with
  | .discarding _ _ _ => s.setLane t .free
  | _ => s

/-- The lane after a refusal at R139 (R140). -/
def State.laneAfterRefusal (s : State) (t : Tester) (p : List Byte) (reason : Byte) : State :=
  if reason = Reason.notAdmitted then s
  else if s.laneFree t && 1 ≤ lastSegment (reqTotal p) then
    s.setLane t (.discarding (byteAt p 0) (lastSegment (reqTotal p)) s.gapTimer)
  else s

/-- The data bytes that a REQ_FIRST carries (R9). -/
def firstData (p : List Byte) : List Byte := takeZero p 5 (min 59 (reqTotal p))

/-- A REQ_FIRST refused (R140, R192). -/
def State.refuseFirst (s : State) (t : Tester) (p : List Byte) (reason : Byte) (c : Option Class) : State :=
  let s := s.refuseRequest .reqFirst t (byteAt p 0) reason (reqClaim p) c (reqTotal p) (firstData p)
  s.laneAfterRefusal t p reason

/-- The assembly that an accepted REQ_FIRST begins (R138, R139). -/
def State.newAssembly (s : State) (p : List Byte) (e : Pattern) : Assembly where
  tag := byteAt p 0
  total := reqTotal p
  claim := reqClaim p
  cls := e.cls
  level := s.config.deliveryLevel e.cls
  disposition := e.disposition
  data := firstData p
  nextIndex := 1
  lastIndex := lastSegment (reqTotal p)
  gap := s.gapTimer

/-! ## Completion (R69, R70, R143) -/

/-- A request refused on its lane: RESULT, counter and capture; its blocks return and the lane takes
another state (R140). -/
def State.refuseAssembly (s : State) (t : Tester) (a : Assembly) (subject : FrameKind) (reason : Byte)
    (lane : Lane) : State :=
  let s := (s.freeBlocks (blocksFor a.total)).setLane t lane
  s.refuseRequest subject t a.tag reason a.claim (some a.cls) a.total a.data

/-- Answered from a standing reply: the request's blocks return, and a copy of the slot is staged; with
too few free blocks or a full reply list it is refused MEMORY_FULL (R70, R156). -/
def State.answerStanding (s : State) (t : Tester) (a : Assembly) (subject : FrameKind)
    (content : List Byte) : State :=
  if s.memory.free + blocksFor a.total < blocksFor content.length ∨
      Config.replyAnswers ≤ s.memory.replies.length then
    s.refuseAssembly t a subject Reason.memoryFull .free
  else
    let s := (s.freeBlocks (blocksFor a.total)).setLane t .free
    let s := s.takeBlocks (blocksFor content.length)
    let s := s.stageAnswer ⟨t, a.tag, .standing, a.cls, content, 0⟩
    s.count Counter.answered

/-- The checks made again at completion (R143). -/
def State.completionRefusal (s : State) (t : Tester) (a : Assembly) : Option Byte :=
  if (a.claim ≠ noClaim ∧ a.cls.effecting) ∧ !s.effectingClaimOk t a.cls a.claim then
    some Reason.claimNotHeld
  else if (a.claim ≠ noClaim ∧ !a.cls.effecting) ∧ !s.readClaimOk t a.claim then
    some Reason.claimNotHeld
  else if a.cls.effecting && s.fence.fenced then some Reason.fenced
  else none

/-- The queue entry of a completed request (R144). -/
def State.newEntry (s : State) (t : Tester) (a : Assembly) : QueueEntry where
  tester := t
  tag := a.tag
  cls := a.cls
  level := a.level
  claim := a.claim
  data := a.data
  stamp := s.delivery.lastStamp + 1
  wait := s.startTimer (1000 * s.config.timing.queueWait)

/-- A completed request joins the tail of the delivery queue (R143, R144), or is refused. -/
def State.enqueue (s : State) (t : Tester) (a : Assembly) (subject : FrameKind) : State :=
  match s.completionRefusal t a with
  | some r => s.refuseAssembly t a subject r .free
  | none =>
    let e := s.newEntry t a
    let s := s.setLane t .free
    s.onDelivery fun d => { d with queue := d.queue ++ [e], lastStamp := e.stamp }

/-- Completion by the disposition and the slot as it stands (R69). -/
def State.completeRequest (s : State) (t : Tester) (a : Assembly) (subject : FrameKind) : State :=
  match a.disposition with
  | .deliver => s.enqueue t a subject
  | .localReply k =>
    match s.slots[k] with
    | .empty => s.enqueue t a subject
    | .loaded content => s.answerStanding t a subject content

/-! ## REQ_FIRST and REQ_NEXT -/

/-- A request accepted at its REQ_FIRST: the lane is ASSEMBLING, its blocks reserved; one segment
completes it (R139). -/
def State.beginAssembly (s : State) (t : Tester) (a : Assembly) : State :=
  let s := (s.takeBlocks (blocksFor a.total)).setLane t (.assembling a)
  if a.lastIndex = 0 then s.completeRequest t a .reqFirst else s

/-- The passage of a REQ_FIRST (R139). -/
def State.passReqFirst (s : State) (t : Tester) (p : List Byte) : State :=
  let s := s.endDiscarding t
  match s.judgeRequest t p with
  | .inl (r, c) => s.refuseFirst t p r c
  | .inr e => s.beginAssembly t (s.newAssembly p e)

/-- REQ_FIRST_PASSAGE (R139). -/
def execReqFirstPassage (s : State) : Host.Outcome State Fault Refusal :=
  finish (s.testerPassage .reqFirst everyPayload fun t p s => s.passReqFirst t p)

/-- The data bytes that the next segment of an assembly brings (R9). -/
def nextData (a : Assembly) (p : List Byte) : List Byte := takeZero p 2 (min 62 (a.total - a.data.length))

/-- An assembly with the next segment stored, its gap timer restarted (R141). -/
def State.storeSegment (s : State) (a : Assembly) (p : List Byte) : Assembly :=
  { a with data := a.data ++ nextData a p, nextIndex := a.nextIndex + 1, gap := s.gapTimer }

/-- A segment for an assembly: stored, perhaps completing it, or aborting it with SEQUENCE (R141). -/
def State.assembleSegment (s : State) (t : Tester) (a : Assembly) (p : List Byte) : State :=
  if (byteAt p 1).toNat = a.nextIndex then
    let b := s.storeSegment a p
    let s := s.setLane t (.assembling b)
    if b.total ≤ b.data.length then s.completeRequest t b .reqNext else s
  else s.refuseAssembly t a .reqNext Reason.sequence (.discarding a.tag a.lastIndex s.gapTimer)

/-- The passage of a REQ_NEXT (R141). -/
def State.passReqNext (s : State) (t : Tester) (p : List Byte) : State :=
  match s.memory.lanes[t] with
  | .free => s
  | .assembling a => if a.tag = byteAt p 0 then s.assembleSegment t a p else s
  | .discarding tag last _ =>
    if tag = byteAt p 0 then
      if (byteAt p 1).toNat = last then s.setLane t .free
      else s.setLane t (.discarding tag last s.gapTimer)
    else s

/-- REQ_NEXT_PASSAGE (R141). -/
def execReqNextPassage (s : State) : Host.Outcome State Fault Refusal :=
  finish (s.testerPassage .reqNext everyPayload fun t p s => s.passReqNext t p)

/-! ## The gap timer (R142), QUEUE_WAIT (R145) and ABORT_REQ (R158) -/

/-- The expiry of a lane's gap timer (R142). -/
def State.gapExpired (s : State) (t : Tester) : State :=
  match s.memory.lanes[t] with
  | .free => s
  | .assembling a => s.refuseAssembly t a .reqFirst Reason.assemblyTimeout .free
  | .discarding _ _ _ => s.setLane t .free

/-- GAP_TIMER_EXPIRY (R142). -/
def execGapTimerExpiry (tester : Tester) (s : State) : Host.Outcome State Fault Refusal :=
  finish (s.expire s.memory.lanes[tester].gap? fun s => s.gapExpired tester)

/-- Is an entry the one of a tester and a tag (R144)? -/
def QueueEntry.isFor (t : Tester) (tag : Byte) (e : QueueEntry) : Bool := e.tester == t && e.tag == tag

/-- The queued entry of a tester and a tag (R144). -/
def State.queued? (s : State) (t : Tester) (tag : Byte) : Option QueueEntry :=
  s.delivery.queue.find? (QueueEntry.isFor t tag)

/-- QUEUE_WAIT_EXPIRY (R145). -/
def execQueueWaitExpiry (tester : Tester) (tag : Byte) (s : State) : Host.Outcome State Fault Refusal :=
  finish (s.expire ((s.queued? tester tag).map fun e => e.wait) fun s =>
    s.removeEntries (QueueEntry.isFor tester tag) (some Reason.queueTimeout))

/-- The RESULT of an ABORT_REQ that answers the ABORT_REQ itself (R158, R191). -/
def State.abortResult (s : State) (t : Tester) (tag reason : Byte) (id : ClaimId) : State :=
  s.offerResult .abortReq t tag reason id

/-- An ABORT_REQ judged against the request in service, by its mark as it stands (R158; log entry 33). -/
def State.abortInService (s : State) (t : Tester) (tag : Byte) : State :=
  match s.delivery.service with
  | none => s.abortResult t tag Reason.notFound noClaim
  | some v =>
    if v.tester = t ∧ v.tag = tag ∧ v.orphaned = false then
      if v.cls.effecting then
        if s.fence.stop.isNone then s.askStop .abort else s.abortResult t tag Reason.already v.claim
      else s.abortResult t tag Reason.notAbortable v.claim
    else s.abortResult t tag Reason.notFound noClaim

/-- An ABORT_REQ judged against the delivery queue (R158): the entry is removed, and its one RESULT has
the subject ABORT_REQ. -/
def State.abortQueued (s : State) (t : Tester) (tag : Byte) : State :=
  match s.queued? t tag with
  | some e =>
    (s.removeEntries (QueueEntry.isFor t tag) none).requestResult .abortReq t tag Reason.aborted e.claim
  | none => s.abortInService t tag

/-- The assembly is dropped at an ABORT_REQ: its blocks and queue place are released, the lane becomes
DISCARDING as in R141 (R158). -/
def State.abortAssembly (s : State) (t : Tester) (a : Assembly) : State :=
  let s := (s.freeBlocks (blocksFor a.total)).setLane t (.discarding a.tag a.lastIndex s.gapTimer)
  s.requestResult .abortReq t a.tag Reason.aborted a.claim

/-- The passage of an ABORT_REQ: the first case that applies (R158). -/
def State.passAbort (s : State) (t : Tester) (tag : Byte) : State :=
  if !s.admitted t then s.abortResult t tag Reason.notAdmitted noClaim
  else
    match s.memory.lanes[t] with
    | .assembling a => if a.tag = tag then s.abortAssembly t a else s.abortQueued t tag
    | _ => s.abortQueued t tag

/-- ABORT_REQ_PASSAGE (R158). -/
def execAbortReqPassage (s : State) : Host.Outcome State Fault Refusal :=
  finish (s.testerPassage .abortReq everyPayload fun t p s => s.passAbort t (byteAt p 0))

end Sys2Proof.Machine
end

