-- ==== Sys2Proof/Machine/Dispatch.lean ====
section
/-! DEFINITION. The meaning of every command: one direct call for each constructor. -/

namespace Sys2Proof.Machine

def exec (i : Instr) (s : State) : Host.Outcome State Fault Refusal :=
    match i with
    | .powerOn => Sys2Proof.Machine.execPowerOn s
    | .resetAsserted => Sys2Proof.Machine.execResetAsserted s
    | .lineReset => Sys2Proof.Machine.execLineReset s
    | .attemptFailed => Sys2Proof.Machine.execAttemptFailed s
    | .loaderRetryWaitExpiry => Sys2Proof.Machine.execLoaderRetryWaitExpiry s
    | .imageReadDone bytes => Sys2Proof.Machine.execImageReadDone bytes s
    | .fenceLineAssertion => Sys2Proof.Machine.execFenceLineAssertion s
    | .fenceLineRelease => Sys2Proof.Machine.execFenceLineRelease s
    | .frameReceived frame => Sys2Proof.Machine.execFrameReceived frame s
    | .echo => Sys2Proof.Machine.execEcho s
    | .arbitrationStart => Sys2Proof.Machine.execArbitrationStart s
    | .arbitrationLost => Sys2Proof.Machine.execArbitrationLost s
    | .transmitError => Sys2Proof.Machine.execTransmitError s
    | .receiveError => Sys2Proof.Machine.execReceiveError s
    | .busReturn => Sys2Proof.Machine.execBusReturn s
    | .waitingRevokeDomainJoins => Sys2Proof.Machine.execWaitingRevokeDomainJoins s
    | .replySegmenterOffer => Sys2Proof.Machine.execReplySegmenterOffer s
    | .ownJoinPassage => Sys2Proof.Machine.execOwnJoinPassage s
    | .peerJoinPassage => Sys2Proof.Machine.execPeerJoinPassage s
    | .presentPassage => Sys2Proof.Machine.execPresentPassage s
    | .ownRevokeDomainPassage => Sys2Proof.Machine.execOwnRevokeDomainPassage s
    | .peerRevokeDomainPassage => Sys2Proof.Machine.execPeerRevokeDomainPassage s
    | .announceNewPassage => Sys2Proof.Machine.execAnnounceNewPassage s
    | .announceResumePassage => Sys2Proof.Machine.execAnnounceResumePassage s
    | .consentPassage => Sys2Proof.Machine.execConsentPassage s
    | .objectPassage => Sys2Proof.Machine.execObjectPassage s
    | .verdictGranted => Sys2Proof.Machine.execVerdictGranted s
    | .verdictResumed => Sys2Proof.Machine.execVerdictResumed s
    | .verdictRefused => Sys2Proof.Machine.execVerdictRefused s
    | .verdictLapsed => Sys2Proof.Machine.execVerdictLapsed s
    | .cancelPassage => Sys2Proof.Machine.execCancelPassage s
    | .breakPassage => Sys2Proof.Machine.execBreakPassage s
    | .endPassage => Sys2Proof.Machine.execEndPassage s
    | .admitPassage => Sys2Proof.Machine.execAdmitPassage s
    | .leavePassage => Sys2Proof.Machine.execLeavePassage s
    | .claimPassage => Sys2Proof.Machine.execClaimPassage s
    | .renewPassage => Sys2Proof.Machine.execRenewPassage s
    | .releasePassage => Sys2Proof.Machine.execReleasePassage s
    | .resumePassage => Sys2Proof.Machine.execResumePassage s
    | .continuePassage => Sys2Proof.Machine.execContinuePassage s
    | .abortReqPassage => Sys2Proof.Machine.execAbortReqPassage s
    | .fenceFramePassage => Sys2Proof.Machine.execFenceFramePassage s
    | .liftPassage => Sys2Proof.Machine.execLiftPassage s
    | .reqFirstPassage => Sys2Proof.Machine.execReqFirstPassage s
    | .reqNextPassage => Sys2Proof.Machine.execReqNextPassage s
    | .answerSegmentEcho => Sys2Proof.Machine.execAnswerSegmentEcho s
    | .statusFrameEcho => Sys2Proof.Machine.execStatusFrameEcho s
    | .refreshOnlyPassage => Sys2Proof.Machine.execRefreshOnlyPassage s
    | .queryStatus => Sys2Proof.Machine.execQueryStatus s
    | .queryIncidents => Sys2Proof.Machine.execQueryIncidents s
    | .queryView => Sys2Proof.Machine.execQueryView s
    | .queryRoster => Sys2Proof.Machine.execQueryRoster s
    | .queryTrail => Sys2Proof.Machine.execQueryTrail s
    | .queryThaw => Sys2Proof.Machine.execQueryThaw s
    | .queryCounters => Sys2Proof.Machine.execQueryCounters s
    | .queryCapture => Sys2Proof.Machine.execQueryCapture s
    | .validityTimerExpiry tester => Sys2Proof.Machine.execValidityTimerExpiry tester s
    | .quietTimerExpiry tester => Sys2Proof.Machine.execQuietTimerExpiry tester s
    | .gapTimerExpiry tester => Sys2Proof.Machine.execGapTimerExpiry tester s
    | .queueWaitExpiry tester tag => Sys2Proof.Machine.execQueueWaitExpiry tester tag s
    | .serviceLimitExpiry => Sys2Proof.Machine.execServiceLimitExpiry s
    | .stopLimitExpiry => Sys2Proof.Machine.execStopLimitExpiry s
    | .windowTimerExpiry claim => Sys2Proof.Machine.execWindowTimerExpiry claim s
    | .holdTimerExpiry claim => Sys2Proof.Machine.execHoldTimerExpiry claim s
    | .leaseTimerExpiry claim => Sys2Proof.Machine.execLeaseTimerExpiry claim s
    | .transactionDiscarded => Sys2Proof.Machine.execTransactionDiscarded s
    | .take data => Sys2Proof.Machine.execTake data s
    | .read data => Sys2Proof.Machine.execRead data s
    | .postInterim bytes => Sys2Proof.Machine.execPostInterim bytes s
    | .postPart bytes => Sys2Proof.Machine.execPostPart bytes s
    | .postFinal bytes => Sys2Proof.Machine.execPostFinal bytes s
    | .stopDone data => Sys2Proof.Machine.execStopDone data s
    | .conditions data => Sys2Proof.Machine.execConditions data s
    | .notice data => Sys2Proof.Machine.execNotice data s
    | .slotLoad data => Sys2Proof.Machine.execSlotLoad data s
    | .slotClear data => Sys2Proof.Machine.execSlotClear data s
    | .status data => Sys2Proof.Machine.execStatus data s
    | .unknownCommandCode message => Sys2Proof.Machine.execUnknownCommandCode message s

end Sys2Proof.Machine
end

