-- ==== Sys2Proof/Machine/Step.lean ====
section
/-!
DEFINITION. One step: the command at the front of the queue is taken and run. On an empty queue a timer
whose end guard time has reached expires; with none, one millisecond of guard time passes (R1; log entry
2).
-/

namespace Sys2Proof.Machine

/-- The step. -/
def step (s : State) : Host.Outcome State Fault Refusal :=
  match s.pending with
  | [] =>
    match s.dueExpiry with
    | some c => exec c s
    | none => .next s.tick
  | c :: rest => exec c { s with pending := rest }

/-- The state with the command that a word spells at the front of its queue (none is spelled). -/
def State.withFetchWord (s : State) (nbits w : Nat) : State :=
  match decodeTableWord nbits w with
  | some c => { s with pending := c :: s.pending }
  | none => s

end Sys2Proof.Machine
end

