-- ==== Sys2Proof/Safety.lean ====
section
/-!
DEFINITION. What holds of a guard at every moment, in the terms the statements use: the invariants that
every step keeps; and the hypotheses that the statements about passages share.
-/

namespace Sys2Proof.Machine

/-! ## The block pool (R136) -/

/-- Blocks held by the request in the service slot and its answer staging (R136). -/
def Service.blocks (v : Service) : Nat := blocksFor v.data.length + blocksFor v.staged.length

/-- Blocks held by assemblies (R136). -/
def Memory.laneBlocks (m : Memory) : Nat := (m.lanes.toList.map Lane.blocks).sum

/-- Blocks held by queued entries (R136). -/
def Delivery.queueBlocks (d : Delivery) : Nat := (d.queue.map fun e => blocksFor e.data.length).sum

/-- Blocks held by the service slot and its staging (R136). -/
def Delivery.serviceBlocks (d : Delivery) : Nat :=
  match d.service with
  | some v => v.blocks
  | none => 0

/-- Blocks held by staged answers (R136). -/
def Memory.replyBlocks (m : Memory) : Nat := (m.replies.map Answer.blocks).sum

/-- Blocks held by all the holders of R136 together; an answer segment holds its blocks until its echo
passes (R137). -/
def State.heldBlocks (s : State) : Nat :=
  s.memory.laneBlocks + s.delivery.queueBlocks + s.delivery.serviceBlocks + s.memory.replyBlocks +
    s.bus.blocks

/-- An assembly has received no more than its total length (R138). -/
def Lane.fits : Lane → Bool
  | .assembling a => a.data.length ≤ a.total
  | _ => true

/-- Only answer segments hold blocks in the transmit queue, and only their echoes in the receive FIFO
(R137). -/
def Backbone.blocksPlaced (b : Backbone) : Bool :=
  b.txQueue.all (fun e => e.blocks == 0 || e.frame.isSort FrameKind.answerKind) &&
    b.rxFifo.all fun e => e.blocks == 0 || (e.echo && e.frame.isSort FrameKind.answerKind)

/-- Is the image not accepted yet, or rejected (R26, R31)? -/
def Phase.unsettled : Phase → Bool
  | .starting | .unconfigured => true
  | _ => false

/-- A controller that is not enabled holds no frame (R15, R17), and none is enabled before the image is
accepted (R17). -/
def State.busQuiet (s : State) : Bool :=
  (s.bus.mode == .enabled || (s.bus.rxFifo.isEmpty && s.bus.txQueue.isEmpty)) &&
    !(s.phase.unsettled && s.bus.mode == .enabled)

/-- Blocks held by assemblies, queued entries and the in-service request, without its staging (R136). -/
def State.requestBlocks (s : State) : Nat :=
  s.memory.laneBlocks + s.delivery.queueBlocks +
    match s.delivery.service with
    | some v => blocksFor v.data.length
    | none => 0

/-- The pool is whole: free and held blocks number 96, and requests hold at most 88 (R136), with what
keeps it so. -/
def State.poolWhole (s : State) : Bool :=
  s.memory.free + s.heldBlocks == Config.poolBlocks &&
    s.requestBlocks + Config.blockReserve ≤ Config.poolBlocks &&
    s.memory.lanes.toList.all Lane.fits && s.bus.blocksPlaced && s.busQuiet

/-! ## The frames of the controller (R10, R11) -/

/-- The receive FIFO holds at most 32 frames, with one place kept while an own frame is sent (R10). -/
def State.fifoBounded (s : State) : Bool :=
  s.bus.rxFifo.length + (if s.bus.sending.isSome then 1 else 0) ≤ Config.rxPlaces

/-- The transmit queue holds at most 24 entries, at most 16 of them tester-bound (R11). -/
def State.txBounded (s : State) : Bool :=
  s.bus.txQueue.length ≤ Config.txEntries && s.bus.testerEntries ≤ Config.txTesterBound

/-! ## Requests (R138, R143, R144, R156) -/

/-- Queued entries and queue places held number at most 16 (R138, R144). -/
def State.queueBounded (s : State) : Bool :=
  s.delivery.queue.length + s.placesHeld ≤ Config.queueEntries

/-- The tester and tag of an assembly in progress. -/
def State.laneTag (s : State) (t : Tester) : Option (Tester × Byte) :=
  match s.memory.lanes[t] with
  | .assembling a => some (t, a.tag)
  | _ => none

/-- The tester and tag of every request in assembly, queued or in service. -/
def State.openTags (s : State) : List (Tester × Byte) :=
  allTesters.filterMap s.laneTag ++ s.delivery.queue.map (fun e => (e.tester, e.tag)) ++
    s.delivery.service.toList.map fun v => (v.tester, v.tag)

/-- The queue places of one tester: its queued entries and its assembly. -/
def State.placesOf (s : State) (t : Tester) : Nat :=
  s.delivery.queue.countP (fun e => e.tester == t) + (if (s.laneTag t).isSome then 1 else 0)

/-- The delivery queue as R144 bounds it: 16 places, 4 of a tester, no tester and tag twice. -/
def State.queueKeyed (s : State) : Bool :=
  s.queueBounded && decide s.openTags.Nodup && allTesters.all fun t => s.placesOf t ≤ Config.queuePerTester

/-- The reply list holds at most 16 answers (R156). -/
def State.repliesBounded (s : State) : Bool := s.memory.replies.length ≤ Config.replyAnswers

/-- An effecting request names a claim, in assembly, queued and in service (R139). -/
def State.effectingNamed (s : State) : Bool :=
  s.memory.lanes.toList.all (fun l =>
    match l with
    | .assembling a => !a.cls.effecting || a.claim != noClaim
    | _ => true) &&
  s.delivery.queue.all (fun e => !e.cls.effecting || e.claim != noClaim) &&
  match s.delivery.service with
  | some v => !v.cls.effecting || v.claim != noClaim
  | none => true

/-- Does a standing serve a queued entry: homed here, of the tester, PENDING or HELD (R143)? -/
def Standing.serves (t : Tester) : Standing → Bool
  | .here r _ => r.tester == t && (r.state == .pending || r.state == .held)
  | _ => false

/-- Every queued entry that names a claim names a record that serves it (R143). -/
def State.queueServed (s : State) : Bool :=
  s.delivery.queue.all fun e => e.claim == noClaim || (s.standing e.claim).serves e.tester

/-! ## The stop order, the notices and the fence (R160, R166, R168, R171, R182) -/

/-- A stop order stands for the request in the service slot: an effecting one of the order's tester, tag,
claim and class, whose SERVICE_LIMIT is stopped; and the domain is OPEN (R160, R161, R166, R171). Without
an order no notice stands for one. -/
def State.stopStands (s : State) : Bool :=
  match s.fence.stop with
  | none => s.link.notices.all fun n => !n.ofOrder
  | some o =>
    !s.fence.fenced &&
    match s.delivery.service with
    | none => false
    | some v =>
      v.cls.effecting && v.tester == o.tester && v.tag == o.tag && v.claim == o.claim &&
        v.cls == o.cls && v.limit.isNone

/-- At most one notice stands for the outstanding stop order, and it is a STOP notice (R160, R182). -/
def Link.orderNotices (l : Link) : Bool :=
  l.notices.countP (fun n => n.ofOrder) ≤ 1 && l.notices.all fun n => !n.ofOrder || !n.plain

/-- The notice queue holds at most 8 notices, at most 7 of them other than STOP (R182). -/
def Link.noticesBounded (l : Link) : Bool :=
  l.notices.length ≤ Config.noticePlaces && l.notices.countP Notice.plain ≤ Config.noticePlain

/-- The stop order and the notice queue are sound together (R160, R182). -/
def State.stopSound (s : State) : Bool :=
  s.stopStands && s.link.orderNotices && s.link.noticesBounded

/-- A fence cause stands only while FENCED (R168). While FENCED no effecting request waits or is in
service (R171). -/
def State.fenceSound (s : State) : Bool :=
  (s.fence.fenced || s.fence.causes == 0) &&
  (!s.fence.fenced ||
    (s.delivery.queue.all (fun e => !e.cls.effecting) &&
      match s.delivery.service with
      | some v => !v.cls.effecting
      | none => true))

/-! ## The local view (R74, R75, R77, R81, R83, R85) -/

/-- The view is in ascending claim id, so no id occurs twice (R74). -/
def Hold.ascending (h : Hold) : Bool :=
  decide (h.view.Pairwise fun x y => x.id.toNat < y.id.toNat)

/-- A record's scope holds the own domain (R74), its class is effecting (R75), it has a sponsor part just
when it is homed here (R77), and it is occupying (R83). -/
def Record.sound (own : Domain) (r : Record) : Bool :=
  inSet own r.scope && r.cls.effecting && (r.sponsor.isSome == (homeOf r.id == own.val)) && r.occupying

/-- A reservation is for a claim homed here whose id no record holds (R81). -/
def State.reservationSound (s : State) (v : Reservation) : Bool :=
  homeOf v.id == s.config.ownDomain.val && (s.record? v.id).isNone

/-- The local view is sound: ascending, at most 24 places, every record and reservation sound; before
the image is accepted it is empty (R74, R81). -/
def State.viewSound (s : State) : Bool :=
  s.hold.ascending && s.hold.view.all (Record.sound s.config.ownDomain) &&
  s.hold.reservations.all s.reservationSound &&
  s.hold.view.length + s.hold.reservations.length ≤ Config.viewPlaces &&
  (!s.phase.unsettled || (s.hold.view.isEmpty && s.hold.reservations.isEmpty))

/-- Every two records of the view have compatible classes, and the matrix is symmetric (R85, R29). -/
def State.viewCompatible (s : State) : Bool :=
  matrixOk s.config.matrix &&
    decide (s.hold.view.Pairwise fun x y => s.config.compatible x.cls y.cls = true)

/-! ## The lines (R147, R168, R187) -/

/-- The indication and the two lines are as the state calls for (R147, R168, R187). -/
def State.linesFollow (s : State) : Bool :=
  s.delivery.serviceWanted == s.serviceWanted && s.pins.fault == s.faultLevel && s.pins.attn == s.attnLevel

/-! ## Hypotheses of statements about passages -/

/-- A tester frame of a kind stands at the head of the receive FIFO of a guard whose image is accepted:
under a target that R7 allows, long enough, before `rest`. -/
def State.testerHead (s : State) (k : FrameKind) (t : Tester) (p : List Byte) (rest : List RxEntry) : Prop :=
  s.phase = .running ∧ k.minLength ≤ p.length ∧
    ∃ e : RxEntry, s.bus.rxFifo = e :: rest ∧ e.echo = false ∧ e.frame.kind = k.code ∧
      e.frame.source = testerAddress t ∧ targetAllows s.config k e.frame.target = true ∧
      e.frame.payload = p

/-- A guard-to-guard frame of a kind stands at the head of the receive FIFO of a guard whose image is
accepted: an echo of the own or a received one, from the guard of domain `d` (the own or a fitted peer),
long enough, before `rest`. -/
def State.guardHead (s : State) (k : FrameKind) (echo : Bool) (d : Domain) (p : List Byte)
    (rest : List RxEntry) : Prop :=
  s.phase = .running ∧ k.minLength ≤ p.length ∧
    ∃ e : RxEntry, s.bus.rxFifo = e :: rest ∧ e.echo = echo ∧ e.frame.kind = k.code ∧
      guardSender s.config e.frame = some d ∧ e.frame.payload = p

/-- The state a tester frame's rule meets: the frame has left the FIFO, the quiet timer is restarted. -/
def State.afterTesterHead (s : State) (t : Tester) : State := s.popHead.quietRefresh t

/-- The kind of tester frame whose passage a row is, with the payloads that go under the row (R7, R194;
log entry 5). -/
def testerRow : Instr → Option (FrameKind × (List Byte → Bool))
  | .admitPassage => some (.admitTicket, everyPayload)
  | .leavePassage => some (.leave, everyPayload)
  | .claimPassage => some (.claim, everyPayload)
  | .renewPassage => some (.renew, everyPayload)
  | .releasePassage => some (.release, everyPayload)
  | .resumePassage => some (.resume, everyPayload)
  | .continuePassage => some (.continueClaim, everyPayload)
  | .abortReqPassage => some (.abortReq, everyPayload)
  | .fenceFramePassage => some (.fence, everyPayload)
  | .liftPassage => some (.lift, everyPayload)
  | .reqFirstPassage => some (.reqFirst, everyPayload)
  | .reqNextPassage => some (.reqNext, everyPayload)
  | .queryStatus => some (.query, selectorRow .status)
  | .queryIncidents => some (.query, selectorRow .incidents)
  | .queryView => some (.query, selectorRow .view)
  | .queryRoster => some (.query, selectorRow .roster)
  | .queryTrail => some (.query, selectorRow .trail)
  | .queryThaw => some (.query, selectorRow .thaw)
  | .queryCounters => some (.query, selectorRow .counters)
  | .queryCapture => some (.query, selectorRow .capture)
  | _ => none

/-- The kind of guard-to-guard frame whose passage a row is, with the frames that go under the row (R7;
log entry 5). -/
def guardRow : Instr → Option (FrameKind × (RxEntry → Bool))
  | .ownJoinPassage => some (.join, fun e => e.echo)
  | .peerJoinPassage => some (.join, fun e => !e.echo)
  | .presentPassage => some (.present, fun _ => true)
  | .ownRevokeDomainPassage => some (.revokeDomain, fun e => e.echo)
  | .peerRevokeDomainPassage => some (.revokeDomain, fun e => !e.echo)
  | .announceNewPassage => some (.announce, announceRow .fresh)
  | .announceResumePassage => some (.announce, announceRow .resume)
  | .consentPassage => some (.consent, fun _ => true)
  | .objectPassage => some (.object, fun _ => true)
  | .verdictGranted => some (.verdict, verdictRow .granted)
  | .verdictResumed => some (.verdict, verdictRow .resumed)
  | .verdictRefused => some (.verdict, verdictRow .refused)
  | .verdictLapsed => some (.verdict, verdictRow .lapsed)
  | .cancelPassage => some (.cancel, fun _ => true)
  | .breakPassage => some (.breakClaim, fun _ => true)
  | .endPassage => some (.endClaim, fun _ => true)
  | _ => none

/-- The replicated fields of a record: id, tester, class, scope, state and flags (R75). -/
def Record.replicated (r : Record) :
    ClaimId × Tester × Sys2Proof.Class × DomainSet × ClaimState × Bool × Bool :=
  (r.id, r.tester, r.cls, r.scope, r.state, r.paced, r.oneShot)

/-- Is a command the expiry of a timer (R1, R27)? -/
def timerExpiry : Instr → Bool
  | .loaderRetryWaitExpiry | .validityTimerExpiry _ | .quietTimerExpiry _ | .gapTimerExpiry _
  | .queueWaitExpiry _ _ | .serviceLimitExpiry | .stopLimitExpiry | .windowTimerExpiry _
  | .holdTimerExpiry _ | .leaseTimerExpiry _ => true
  | _ => false

/-- Is a command one that the ECU sends on the link (R178)? -/
def linkRow : Instr → Bool
  | .take _ | .read _ | .postInterim _ | .postPart _ | .postFinal _ | .stopDone _ | .conditions _
  | .notice _ | .slotLoad _ | .slotClear _ | .status _ => true
  | _ => false

end Sys2Proof.Machine
end

