-- ==== Sys2Proof/Certificates/Slice0/Obligations.lean ====
section
/-!
DEFINITION. The statements for the provers. A state after a command is written as the state the rules
give, brought up to date by `State.drive` (R147, R168, R187), whose effect `LinesLevels` states.
-/

open Sys2Proof Sys2Proof.Machine

/-! ## The machine -/

/-- A step runs the command at the front of the queue. -/
def Obligations.QueueFrontStep : Prop :=
  ∀ (c : Instr) (rest : List Instr) (s : State),
    step { s with pending := c :: rest } = exec c { s with pending := rest }

/-- How guard time passes (R1). On an empty queue a timer whose end guard time has reached expires, and
with none one millisecond passes and wraps; while RESET is asserted nothing does (R25): the model's choice
(log entry 2). No step but a start lets guard time pass the end of a running timer. Which timers run, and
which command is the expiry of each. -/
def Obligations.EmptyQueueTick : Prop :=
  (∀ s : State, s.pending = [] →
    ((∃ k, s.phase = .held k) → step s = .next s) ∧
    ((∀ k, s.phase ≠ .held k) →
      (∀ x ∈ s.runningTimers, (s.guardTime - x.2.started).toNat < x.2.length) →
      step s = .next { s with guardTime := s.guardTime + 1 }) ∧
    (∀ x ∈ s.runningTimers, x.2.length ≤ (s.guardTime - x.2.started).toNat →
      ∃ y ∈ s.runningTimers,
        y.2.length ≤ (s.guardTime - y.2.started).toNat ∧ step s = exec y.1 s)) ∧
  (∀ s t : State, step s = .next t →
    (∀ rest, s.pending ≠ .powerOn :: rest ∧ s.pending ≠ .lineReset :: rest) →
    (∀ x ∈ s.runningTimers, x.2.length < 2 ^ 32 ∧
      (s.guardTime - x.2.started).toNat ≤ x.2.length) →
    ∀ x ∈ s.runningTimers, (t.guardTime - x.2.started).toNat ≤ x.2.length) ∧
  (∀ (s : State) (c : Instr) (tm : Timer),
    (s.phase = .running → ((c, tm) ∈ s.runningTimers ↔
      (∃ u k, s.ticket u = some k ∧
        (c = .validityTimerExpiry u ∧ tm = k.validity ∨ c = .quietTimerExpiry u ∧ tm = k.quiet)) ∨
      (∃ u : Tester, c = .gapTimerExpiry u ∧
        ((∃ a, s.memory.lanes[u] = .assembling a ∧ tm = a.gap) ∨
          ∃ b n, s.memory.lanes[u] = .discarding b n tm)) ∨
      (∃ e ∈ s.delivery.queue, c = .queueWaitExpiry e.tester e.tag ∧ tm = e.wait) ∨
      (∃ v, s.delivery.service = some v ∧ v.limit = some tm ∧ c = .serviceLimitExpiry) ∨
      (∃ o, s.fence.stop = some o ∧ tm = o.limit ∧ c = .stopLimitExpiry) ∨
      (∃ r ∈ s.hold.view, (r.holdTimer = some tm ∧ c = .holdTimerExpiry r.id) ∨
        ∃ q, r.sponsor = some q ∧ (q.window = some tm ∧ c = .windowTimerExpiry r.id ∨
          q.leaseTimer = some tm ∧ c = .leaseTimerExpiry r.id)))) ∧
    (s.phase = .starting → ((c, tm) ∈ s.runningTimers ↔
      c = .loaderRetryWaitExpiry ∧ ∃ n, s.loader = .waiting n tm)) ∧
    (s.phase ≠ .running → s.phase ≠ .starting → s.runningTimers = []))

/-- Every command has a next state in every state, and leaves the queue of commands as it stands. -/
def Obligations.EveryCommandAnswers : Prop :=
  ∀ (c : Instr) (s : State), ∃ t : State, exec c s = .next t ∧ t.pending = s.pending

/-- The values after POWER_ON that the chapters give, in the state at its start (R1, R17, R26, R33, R34,
R45, R67, R74, R81, R96, R136, R138, R144, R150, R156, R160, R167, R168, R173, R180, R182, R188, R189,
R191, R192). -/
def Obligations.ResetValues : Prop :=
  State.reset.guardTime = 0 ∧ State.reset.phase = .starting ∧
  State.reset.pins.fault = false ∧ State.reset.pins.attn = false ∧
  State.reset.bus.mode = .disabled ∧ State.reset.bus.rxFifo = [] ∧ State.reset.bus.txQueue = [] ∧
  State.reset.membership.state = .offline ∧ State.reset.membership.outstanding = [] ∧
  State.reset.membership.presentOwed = false ∧
  (∀ d : Domain, State.reset.membership.roster[d] = ⟨.absent, none, none, none⟩) ∧
  (∀ t : Tester, State.reset.admissions[t] = ⟨none, .none⟩) ∧
  (∀ k : Fin 4, State.reset.slots[k] = .empty) ∧
  State.reset.hold.view = [] ∧ State.reset.hold.reservations = [] ∧ State.reset.hold.nextSeq = 0 ∧
  State.reset.memory.free = 96 ∧ (∀ t : Tester, State.reset.memory.lanes[t] = .free) ∧
  State.reset.memory.replies = [] ∧
  State.reset.delivery.queue = [] ∧ State.reset.delivery.lastStamp = 0 ∧
  State.reset.delivery.service = none ∧
  State.reset.fence.fenced = false ∧ State.reset.fence.causes = 0 ∧ State.reset.fence.stop = none ∧
  State.reset.fence.current = none ∧ State.reset.fence.prior = none ∧
  State.reset.fence.marker = false ∧
  State.reset.link.notices = [] ∧ State.reset.link.lost = false ∧
  State.reset.link.conditions = ⟨.unknown, .unknown, .unknown, .unknown, .unknown⟩ ∧
  (∀ i : Fin 512, State.reset.trail.entries[i] = none) ∧ State.reset.trail.index = 0 ∧
  State.reset.trail.wrapped = false ∧ State.reset.trail.mode = .recording ∧
  State.reset.trail.skipped = 0 ∧ (∀ k : Fin 25, State.reset.trail.counters[k] = 0) ∧
  State.reset.trail.capture = none

/-- What the end of every command drives: FAULT, ATTN and the service-wanted indication, and nothing
else (R147, R168, R187). -/
def Obligations.LinesLevels : Prop :=
  ∀ s : State,
    (s.drive.pins.fault = true ↔ s.fence.fenced = true ∨ s.phase = .unconfigured) ∧
    (s.drive.delivery.serviceWanted = true ↔ ∃ e ∈ s.delivery.queue, s.eligible e = true) ∧
    (s.drive.pins.attn = true ↔
      s.phase = .running ∧ (s.link.notices ≠ [] ∨ ∃ e ∈ s.delivery.queue, s.eligible e = true)) ∧
    s.drive = { s with
      delivery := { s.delivery with serviceWanted := s.drive.delivery.serviceWanted }
      pins := { s.pins with fault := s.drive.pins.fault, attn := s.drive.pins.attn } }

/-! ## Invariants -/

/-- Every invariant below holds at reset. -/
def Obligations.InvariantsAtReset : Prop :=
  State.reset.linesFollow = true ∧ State.reset.poolWhole = true ∧ State.reset.fifoBounded = true ∧
  State.reset.txBounded = true ∧ State.reset.viewSound = true ∧ State.reset.viewCompatible = true ∧
  State.reset.queueKeyed = true ∧ State.reset.repliesBounded = true ∧ State.reset.effectingNamed = true ∧
  State.reset.fenceSound = true ∧ State.reset.stopSound = true ∧ State.reset.queueServed = true

/-- Every step leaves FAULT, ATTN and the service-wanted indication at the levels the state calls for. -/
def Obligations.LinesFollowKept : Prop :=
  ∀ s t : State, s.linesFollow = true → step s = .next t → t.linesFollow = true

/-- Every step keeps the block pool whole: free blocks and held blocks number 96, and requests hold at
most 88. -/
def Obligations.PoolWholeKept : Prop :=
  ∀ s t : State, s.poolWhole = true → step s = .next t →
    t.poolWhole = true ∧ t.memory.free + t.heldBlocks = 96 ∧ t.requestBlocks ≤ 88

/-- Every step keeps the receive FIFO at 32 frames at most, with a place for the echo of a frame under
way, and the transmit queue at 24 entries at most, 16 of them tester-bound. -/
def Obligations.BusQueuesBounded : Prop :=
  ∀ s t : State, step s = .next t →
    (s.fifoBounded = true → t.fifoBounded = true) ∧ (s.txBounded = true → t.txBounded = true)

/-- Every step keeps the local view sound: ascending ids, 24 places, the fields of R74 to R77, every
record occupying; and, with a sound view, every two of its records in compatible classes. -/
def Obligations.ViewSoundKept : Prop :=
  (∀ s t : State, s.viewSound = true → step s = .next t → t.viewSound = true) ∧
  (∀ s t : State, s.viewSound = true → s.viewCompatible = true → step s = .next t →
     t.viewCompatible = true)

/-- Every step keeps the delivery queue in its bounds, with no tester and tag twice among assemblies,
queued entries and the request in service; the reply list at 16 answers; and a claim named by every
effecting request. -/
def Obligations.RequestsKeyed : Prop :=
  ∀ s t : State, step s = .next t →
    (s.queueKeyed = true → t.queueKeyed = true) ∧
    (s.repliesBounded = true → t.repliesBounded = true) ∧
    (s.effectingNamed = true → t.effectingNamed = true)

/-- Every step keeps it so: a fence cause stands only while FENCED, and while FENCED no effecting request
is queued or in service; and, with that, the stop order and the notice queue are sound together. -/
def Obligations.FenceAndStopKept : Prop :=
  (∀ s t : State, s.fenceSound = true → step s = .next t → t.fenceSound = true) ∧
  (∀ s t : State, s.fenceSound = true → s.stopSound = true → step s = .next t → t.stopSound = true)

/-- Every queued entry that names a claim names a record of its tester, homed here, PENDING or HELD;
with a sound view every step keeps it so. -/
def Obligations.QueueServedKept : Prop :=
  ∀ s t : State, s.viewSound = true → s.queueServed = true → step s = .next t → t.queueServed = true

/-! ## What no other command changes -/

/-- Only a start and the reading of an image change the configuration; only a start changes the start
kind; and only a start and the expiry of a timer set guard time (the model's choice, log entries 2 and 3:
another command takes none). The standing reply slots and the
condition set are the ECU's: beside a start, only SLOT_LOAD and SLOT_CLEAR change a slot, and only
CONDITIONS changes the set. A link command changes neither the admission table nor the roster, the domain
state or the configuration (R177). -/
def Obligations.ConfigurationAndEcuFrame : Prop :=
  (∀ (c : Instr) (s t : State), exec c s = .next t → c ≠ .powerOn → c ≠ .lineReset →
     t.startKind = s.startKind ∧
     ((∀ bytes, c ≠ .imageReadDone bytes) → t.config = s.config) ∧
     (timerExpiry c = false → t.guardTime = s.guardTime)) ∧
  (∀ (c : Instr) (s t : State), exec c s = .next t → c ≠ .powerOn → c ≠ .lineReset →
     ((∀ data, c ≠ .slotLoad data ∧ c ≠ .slotClear data) → t.slots = s.slots) ∧
     ((∀ data, c ≠ .conditions data) → t.link.conditions = s.link.conditions) ∧
     (linkRow c = true →
       t.admissions = s.admissions ∧ t.membership.roster = s.membership.roster ∧
         t.fence.fenced = s.fence.fenced ∧ t.fence.causes = s.fence.causes ∧ t.config = s.config))

/-- Beside a start, an admission entry changes only at the expiry of its timers and at the passage of a
received frame of its tester. -/
def Obligations.AdmissionsFrame : Prop :=
  ∀ (c : Instr) (s t : State) (u : Tester), exec c s = .next t → c ≠ .powerOn → c ≠ .lineReset →
    t.admissions[u] ≠ s.admissions[u] →
      c = .validityTimerExpiry u ∨ c = .quietTimerExpiry u ∨
      (((testerRow c).isSome = true ∨ c = .refreshOnlyPassage) ∧
        ∃ (e : RxEntry) (rest : List RxEntry), s.phase = .running ∧ s.bus.rxFifo = e :: rest ∧
          e.echo = false ∧ testerOf e.frame.source = some u)

/-- Beside a start, the replicated fields of the view change only at the passage of a guard-to-guard
frame (R79). -/
def Obligations.ReplicatedFrame : Prop :=
  ∀ (c : Instr) (s t : State), exec c s = .next t → c ≠ .powerOn → c ≠ .lineReset →
    guardRow c = none →
      t.hold.view.map Record.replicated = s.hold.view.map Record.replicated

/-- The domain state changes only at a fence cause, a LIFT, an acceptance or a POWER_ON; the PRIOR
incident changes only where an incident was OPEN, or at a start; and only TAKE sets the marker. -/
def Obligations.FenceFrame : Prop :=
  ∀ (c : Instr) (s t : State), exec c s = .next t → c ≠ .powerOn → c ≠ .lineReset →
    ((t.fence.fenced ≠ s.fence.fenced) →
      c = .fenceLineAssertion ∨ c = .fenceFramePassage ∨ c = .liftPassage ∨ c = .stopLimitExpiry ∨
        ∃ bytes, c = .imageReadDone bytes) ∧
    ((∀ bytes, c ≠ .imageReadDone bytes) → t.fence.prior ≠ s.fence.prior →
      ∃ i, s.fence.current = some i ∧ i.status = .opened) ∧
    (t.fence.marker = true → s.fence.marker = true ∨ ∃ data, c = .take data)

/-- The delivery queue keeps its order: a command removes entries or adds one at the tail, and only a
request segment adds one (R144). Only TAKE fills an empty service slot (R148). -/
def Obligations.DeliveryFrame : Prop :=
  ∀ (c : Instr) (s t : State), exec c s = .next t →
    (∃ kept new, t.delivery.queue = kept ++ new ∧ kept.Sublist s.delivery.queue ∧ new.length ≤ 1 ∧
      (new ≠ [] → c = .reqFirstPassage ∨ c = .reqNextPassage)) ∧
    (s.delivery.service = none → t.delivery.service ≠ none → ∃ data, c = .take data)

/-- Beside a POWER_ON and the COUNTERS query no counter falls, and beside a POWER_ON and the CAPTURE
query a capture stays (R191, R192). -/
def Obligations.TrailFrame : Prop :=
  ∀ (c : Instr) (s t : State), exec c s = .next t → c ≠ .powerOn →
    (c = .lineReset → s.startAfterReset ≠ .powerOn) →
    (c ≠ .queryCounters → ∀ k : Fin 25, s.trail.counters[k].toNat ≤ t.trail.counters[k].toNat) ∧
    (c ≠ .queryCapture → ∀ x, s.trail.capture = some x → t.trail.capture = some x)

/-- While the domain is FENCED the guard queues no CONSENT. -/
def Obligations.FencedQueuesNoConsent : Prop :=
  ∀ (c : Instr) (s t : State), s.fence.fenced = true → exec c s = .next t →
    t.bus.txQueue.countP (fun e => e.frame.kind == FrameKind.consent.code) ≤
      s.bus.txQueue.countP fun e => e.frame.kind == FrameKind.consent.code

/-! ## The shared operations -/

/-- What an offer to the transmit queue does (R11, R13, R14), and the loss event (R36). That a freed entry
stays kept for a waiting REVOKE_DOMAIN, so that meanwhile a status frame counts it as taken and a protocol
frame is dropped, is the model's choice (log entry 15). -/
def Obligations.Offers : Prop :=
  ∀ s : State,
    (∀ (k : FrameKind) (p : List Byte),
      (s.bus.mode = .enabled → s.revokeWaits = false → s.bus.txQueue.length < 24 →
        s.offerProtocol k p = { s with bus := { s.bus with
          txQueue := s.bus.txQueue ++ [⟨guardFrame s.config.ownDomain k p, 0⟩] } }) ∧
      (s.bus.mode = .enabled → (s.revokeWaits = true ∨ 24 ≤ s.bus.txQueue.length) →
        s.offerProtocol k p = (s.count Counter.txDropped).lossEvent) ∧
      (s.bus.mode ≠ .enabled → s.offerProtocol k p = s.count Counter.txDropped)) ∧
    (∀ (k : FrameKind) (t : Tester) (p : List Byte),
      (s.bus.mode = .enabled → s.bus.testerEntries < 16 →
        s.bus.txQueue.length + (if s.revokeWaits then 1 else 0) < 24 →
        s.offerStatus k t p = { s with bus := { s.bus with
          txQueue := s.bus.txQueue ++ [⟨testerFrame s.config.ownDomain k t p, 0⟩] } }) ∧
      (¬(s.bus.mode = .enabled ∧ s.bus.testerEntries < 16 ∧
          s.bus.txQueue.length + (if s.revokeWaits then 1 else 0) < 24) →
        s.offerStatus k t p = s.count Counter.txDropped)) ∧
    (s.membership.state = .offline → s.lossEvent = s) ∧
    (s.membership.state = .joining ∨ s.membership.state = .resync →
      s.lossEvent = { s with membership := { s.membership with
        outstanding := s.membership.outstanding.map Clearing.uncovered } }) ∧
    (s.membership.state = .member →
      s.lossEvent.membership.state = .resync ∧
      (s.membership.outstanding.any Clearing.toComplete = true →
        s.lossEvent = { s with membership := { s.membership with
          state := .resync, outstanding := s.membership.outstanding.map Clearing.uncovered } }) ∧
      (s.membership.outstanding.any Clearing.toComplete = false → s.bus.mode = .enabled →
        s.bus.txQueue.length < 24 →
        s.lossEvent.bus.txQueue = s.bus.txQueue ++ [⟨s.revokeFrame .resync, 0⟩] ∧
        s.lossEvent.membership.outstanding =
          s.membership.outstanding.map Clearing.uncovered ++ [⟨.resync, .queued⟩]) ∧
      (s.membership.outstanding.any Clearing.toComplete = false → s.bus.mode = .enabled →
        24 ≤ s.bus.txQueue.length →
        s.lossEvent.bus = s.bus ∧
        s.lossEvent.membership.outstanding =
          s.membership.outstanding.map Clearing.uncovered ++ [⟨.resync, .waiting⟩]))

/-- Taking a fence cause (R170): the entry into FENCED from OPEN (R171), with the RESULT FENCED of an
abandoned stop, of a discarded request and of the removed entries, and the request for
REVOKE_DOMAIN(own, REVOKED) (R39); and a further cause while FENCED. That the removed entries are answered
oldest first is the model's choice (log entry 31), and that the order keeps the marking of a request
orphaned under it the model's reading (log entry 33). -/
def Obligations.FenceCauseTaken : Prop :=
  (∀ (s : State) (c : FenceCause) (i : Incident),
    (s.fence.fenced = false → s.stopStands = true →
      let t := s.takeFenceCause c i
      t.fence.fenced = true ∧ t.fence.causes = s.fence.causes ||| c.bit ∧ t.fence.stop = none ∧
      t.fence.current = some i ∧ t.fence.marker = s.fence.marker ∧
      (∀ x, s.fence.current = some x → x.status = .opened →
        ∃ y, t.fence.prior = some y ∧ y.cause = x.cause ∧ y.status = .overtaken) ∧
      ((∀ x, s.fence.current = some x → x.status ≠ .opened) → t.fence.prior = s.fence.prior) ∧
      (∀ v, s.delivery.service = some v → v.cls.effecting = true → t.delivery.service = none) ∧
      (∀ v, s.delivery.service = some v → v.cls.effecting = false → t.delivery.service = some v) ∧
      t.delivery.queue = s.delivery.queue.filter (fun e => !e.cls.effecting) ∧
      (∀ v, s.delivery.service = some v → v.cls.effecting = true →
        t.record? v.claim =
          (s.record? v.claim).map (fun r => r.onSponsor fun p => { p with op := .idle })) ∧
      (let removed := s.delivery.queue.filter fun e => e.cls.effecting
       let served : List (Tester × Byte × ClaimId) :=
         match s.delivery.service, s.fence.stop with
         | some v, some o =>
           if v.orphaned = true ∨ o.testerGone = true ∨ o.cause = .serviceTimeout then [] else [(o.tester, o.tag, o.claim)]
         | some v, none =>
           if v.cls.effecting = true ∧ v.orphaned = false then [(v.tester, v.tag, v.claim)] else []
         | none, _ => []
       let w := ((served ++ removed.map fun e => (e.tester, e.tag, e.claim)).foldl (fun w x =>
         w.requestResult .reqFirst x.1 x.2.1 Reason.fenced x.2.2) s).requestRevoke
       t.bus = w.bus ∧ t.membership = w.membership ∧ t.trail.counters = w.trail.counters ∧
       t.trail.capture = (match s.trail.capture with
         | some x => some x
         | none => removed.head?.map fun e =>
             ⟨e.tester, e.tag, some e.cls, Reason.fenced, e.data.length, e.data.take 48⟩) ∧
       t.memory.free = s.memory.free + (match s.delivery.service with
         | some v => if v.cls.effecting = true then v.blocks else 0
         | none => 0) + (removed.map fun e => blocksFor e.data.length).sum ∧
       t.memory.lanes = s.memory.lanes ∧ t.memory.replies = s.memory.replies) ∧
      t.hold.view.map Record.replicated = s.hold.view.map Record.replicated ∧
      t.membership.state = s.membership.state ∧
      (∃ before, t.link.notices =
        before ++ [⟨.fenced, s.guardTime, none, none, noClaim, none, c.code, false⟩]) ∧
      (s.trail.mode = .recording →
        t.trail.entries =
          s.trail.entries.set s.trail.index.val (some ⟨s.guardTime, .fenced, none, none, none, c.code⟩)
            s.trail.index.isLt ∧
        t.trail.mode = if s.config.timing.freezeAfter = 0 then .frozen
          else .draining s.config.timing.freezeAfter)) ∧
    (s.fence.fenced = true → s.fence.hasCause c = false →
      s.takeFenceCause c i =
        (({ s with fence :=
          ({ s.fence with causes := s.fence.causes ||| c.bit } : Fence).writeIncident i } : State).post
            .fenced none none none c.code)) ∧
    (s.fence.fenced = true → s.fence.hasCause c = true → s.takeFenceCause c i = s)) ∧
  (∀ s : State,
    (s.membership.state = .offline → s.requestRevoke = s) ∧
    (s.membership.state ≠ .offline → s.revokeWaits = true →
      s.requestRevoke = { s with membership := { s.membership with
        outstanding := s.membership.outstanding.map fun x =>
          if x.progress = .waiting then { x with reason := .revoked } else x } }) ∧
    (s.membership.state ≠ .offline → s.revokeWaits = false → s.bus.mode = .enabled →
      (s.bus.txQueue.length < 24 →
        s.requestRevoke = { s with
          bus := { s.bus with txQueue := s.bus.txQueue ++ [⟨guardFrame s.config.ownDomain .revokeDomain
            (revokePayload s.config.ownDomain .revoked), 0⟩] }
          membership := { s.membership with
            outstanding := s.membership.outstanding ++ [⟨.revoked, .queued⟩] } }) ∧
      (24 ≤ s.bus.txQueue.length →
        s.requestRevoke = { s with membership := { s.membership with
          outstanding := s.membership.outstanding ++ [⟨.revoked, .waiting⟩] } })))

/-- A stop order: asked for (R160), issued (R161) and settled (R164), with the STOPPED entry, the return of
the operation state to IDLE and the RESULT of each cause, none for an orphaned request (R59). That the
order keeps the marking of a request orphaned under it is the model's reading (log entry 33). -/
def Obligations.StopOrders : Prop :=
  (∀ (s : State) (c : StopCause) (v : Service), s.delivery.service = some v →
    (v.cls.effecting = true → s.fence.stop = none →
      let t := s.askStop c
      t.fence.stop =
        some ⟨v.tester, v.tag, v.claim, v.cls, c, ⟨s.guardTime, s.config.timing.stopLimit⟩, false⟩ ∧
      t.delivery.service = some { v with limit := none } ∧ t.delivery.queue = s.delivery.queue ∧
      t.fence.current = some ⟨.stop c, some v.claim, some v.tester, some v.tag, some v.cls,
        s.guardTime, .opened, none⟩ ∧
      t.record? v.claim =
        (s.record? v.claim).map (fun r => r.onSponsor fun p => { p with op := .stopping }) ∧
      (∃ before, t.link.notices = before ++
        [⟨.stop, s.guardTime, some v.tester, some v.tag, v.claim, some v.cls, c.code, true⟩]) ∧
      t.trail = (s.post .incident (some v.tester) (some v.claim) (some v.cls) c.code).trail ∧
      t.memory = s.memory ∧ t.bus = s.bus ∧ t.membership = s.membership) ∧
    ((v.cls.effecting = false ∨ s.fence.stop ≠ none) → s.askStop c = s) ∧
    (∀ (o : StopOrder) (x : IncidentOutcome), s.fence.stop = some o →
      let t := s.settleStop o v x
      t.fence.stop = none ∧ t.fence.marker = false ∧ t.fence.prior = s.fence.prior ∧
      t.fence.current =
        s.fence.current.map (fun i => { i with status := .closed, outcome := some x }) ∧
      t.link.notices = s.link.notices.filter (fun n => !n.ofOrder) ∧
      t.delivery.service = none ∧ t.delivery.queue = s.delivery.queue ∧
      t.memory.free = s.memory.free + v.blocks ∧
      t.memory.replies = s.memory.replies ∧
      (settledResult o.cause = none ∨ v.orphaned = true ∨ o.testerGone = true → t.bus = s.bus) ∧
      (∀ r k, settledResult o.cause = some (r, k) → v.orphaned = false → o.testerGone = false →
        s.takesStatus = true →
        t.bus.txQueue = s.bus.txQueue ++
          [⟨testerFrame s.config.ownDomain .result o.tester (resultPayload k o.tag r o.claim), 0⟩]) ∧
      (v.cls.effecting = true → t.record? v.claim =
        (s.record? v.claim).map (fun r => r.onSponsor fun p => { p with op := .idle })) ∧
      (let w := s.post .stopped (some o.tester) (some o.claim) (some o.cls) x.code
       (settledResult o.cause = none ∨ v.orphaned = true ∨ o.testerGone = true → t.trail = w.trail) ∧
       (∀ r k, settledResult o.cause = some (r, k) → v.orphaned = false → o.testerGone = false →
         t.trail = (w.requestResult k o.tester o.tag r o.claim).trail)))) ∧
  settledResult .endClaim = some (Reason.stopped, .reqFirst) ∧
  settledResult .breakClaim = some (Reason.stopped, .reqFirst) ∧
  settledResult .busLoss = some (Reason.stopped, .reqFirst) ∧
  settledResult .abort = some (Reason.aborted, .abortReq) ∧
  settledResult .serviceTimeout = none ∧
  IncidentOutcome.acknowledged.code = 0x01#8 ∧ IncidentOutcome.answered.code = 0x02#8

/-- Posting a trail entry by the trail state (R188, R189), and queueing a notice (R182). -/
def Obligations.TrailAndNotices : Prop :=
  ∀ (s : State) (ev : TrailEvent) (u : Option Tester) (i : Option ClaimId)
      (k : Option Sys2Proof.Class) (d : Byte) (n : Notice),
    (s.trail.mode ≠ .frozen →
      (s.post ev u i k d).trail.entries =
        s.trail.entries.set s.trail.index.val (some ⟨s.guardTime, ev, u, i, k, d⟩)
          s.trail.index.isLt ∧
      (s.post ev u i k d).trail.index.val = (s.trail.index.val + 1) % 512 ∧
      ((s.post ev u i k d).trail.wrapped = true ↔
        s.trail.wrapped = true ∨ s.trail.index.val = 511) ∧
      (s.trail.mode = .recording → (s.post ev u i k d).trail.mode = .recording) ∧
      (∀ m, s.trail.mode = .draining m →
        (s.post ev u i k d).trail.mode = if m ≤ 1 then .frozen else .draining (m - 1))) ∧
    (s.trail.mode = .frozen →
      (s.post ev u i k d).trail = { s.trail with
        skipped := if s.trail.skipped = 0xFFFF#16 then 0xFFFF#16 else s.trail.skipped + 1 }) ∧
    ((s.link.notices.length < 8 ∧ (n.plain = false ∨ s.link.notices.countP Notice.plain < 7)) →
      s.queueNotice n = { s with link := { s.link with notices := s.link.notices ++ [n] } }) ∧
    (¬(s.link.notices.length < 8 ∧ (n.plain = false ∨ s.link.notices.countP Notice.plain < 7)) →
      (s.queueNotice n).link.lost = true ∧
      (s.link.notices.any Notice.plain = true →
        (s.queueNotice n).link.notices = s.link.notices.eraseP Notice.plain ++ [n]) ∧
      (s.link.notices.any Notice.plain = false →
        (s.queueNotice n).link.notices = s.link.notices.eraseP (fun x => !x.ofOrder) ++ [n]))

/-- The three choices by order: the arbiter's among the eligible entries (R148), the winning entry
among the matching patterns (R65), and a free sequence value while fewer than 25 places are taken
(R96). The four conditions of eligibility (R146) and the domain mask level (R62, R90). -/
def Obligations.Choices : Prop :=
  (∀ (s : State) (e : QueueEntry), s.arbiter = some e →
    ∃ before after, s.delivery.queue = before ++ e :: after ∧ s.eligible e = true ∧
      (∀ x ∈ before, s.eligible x = true → x.level < e.level) ∧
      (∀ x ∈ after, s.eligible x = true → x.level ≤ e.level)) ∧
  (∀ s : State, s.arbiter = none ↔ ∀ e ∈ s.delivery.queue, s.eligible e = false) ∧
  (∀ (ps : List Pattern) (w : List Byte) (n : Nat) (e : Pattern), winningPattern ps w n = some e →
    ∃ before after, ps = before ++ e :: after ∧ e.fits w n = true ∧
      (∀ x ∈ before, x.fits w n = true → x.cls.number < e.cls.number) ∧
      (∀ x ∈ after, x.fits w n = true → x.cls.number ≤ e.cls.number)) ∧
  (∀ (ps : List Pattern) (w : List Byte) (n : Nat),
    winningPattern ps w n = none ↔ ∀ e ∈ ps, e.fits w n = false) ∧
  (∀ s : State, s.hold.view.length + s.hold.reservations.length ≤ 24 →
    s.seqFree s.nextFreeSeq = true) ∧
  (∀ (s : State) (e : QueueEntry),
    s.eligible e = true ↔
      (s.delivery.service = none ∧ s.fence.stop = none) ∧
      (e.claim ≠ noClaim → ∃ r q, s.standing e.claim = .here r q ∧ r.state = .held ∧
        q.ending = false ∧ (r.paced = false ∨ q.credit = true)) ∧
      ((e.claim ≠ noClaim ∧ ∃ r, s.record? e.claim = some r ∧ r.state = .held) ∨
        s.domainMask < e.level) ∧
      (e.cls.effecting = true → s.fence.fenced = false)) ∧
  (∀ s : State,
    (∀ r ∈ s.hold.view, r.state = .held → r.sponsor ≠ none →
      s.config.maskLevel r.cls ≤ s.domainMask) ∧
    (s.domainMask = 0 ∨ ∃ r ∈ s.hold.view, r.state = .held ∧ r.sponsor ≠ none ∧
      s.config.maskLevel r.cls = s.domainMask))

/-! ## Starts, the loader, the FENCE line and the FENCE frames -/

/-- POWER_ON, RESET_ASSERTED and LINE_RESET (R25, R26); a failed attempt and the wait after it (R27). The
model's choices: a start keeps the input line levels, the queue of commands and the count of free values
(log entry 6); before an image is accepted the configuration is zeros, and the error counts are 0 while the
controller is disabled (log entry 7); the release of a RESET that was never asserted (log entry 22); a RESET
and a start leave no link response (log entry 24); and the moment of the wait's end (log entry 3). -/
def Obligations.StartsAndLoader : Prop :=
  ∀ s : State,
    (s.pins.resetAsserted = false →
      exec .powerOn s = .next { State.reset with
        pending := s.pending, freeCount := s.freeCount
        pins := ⟨false, s.pins.fenceAsserted, false, false⟩ }) ∧
    (s.pins.resetAsserted = true →
      exec .powerOn s = .next { State.reset with
        pending := s.pending, freeCount := s.freeCount, phase := .held .powerOn, loader := .idle
        pins := ⟨true, s.pins.fenceAsserted, false, false⟩ }) ∧
    exec .resetAsserted s = .next { s with
      phase := .held s.startAfterReset
      pins := ⟨true, s.pins.fenceAsserted, s.fence.fenced, false⟩
      loader := .idle
      bus := { s.bus with sending := none }
      link := { s.link with response := none }
      delivery := { s.delivery with serviceWanted := s.serviceWanted } } ∧
    (s.startAfterReset = .powerOn →
      exec .lineReset s = .next { State.reset with
        pending := s.pending, freeCount := s.freeCount
        pins := ⟨false, s.pins.fenceAsserted, false, false⟩ }) ∧
    (s.startAfterReset ≠ .powerOn →
      exec .lineReset s = .next { State.reset with
        pending := s.pending, freeCount := s.freeCount, startKind := .lineReset
        pins := ⟨false, s.pins.fenceAsserted, s.fence.fenced, false⟩
        fence := { s.fence with stop := none }, trail := s.trail }) ∧
    (∀ n, s.phase = .starting → s.loader = .reading n →
      (n + 1 < 3 →
        exec .attemptFailed s =
          .next ({ s with loader := .waiting (n + 1) ⟨s.guardTime, 5⟩ } : State).drive) ∧
      (3 ≤ n + 1 →
        exec .attemptFailed s =
          .next ({ s with loader := .idle, phase := .unconfigured } : State).drive)) ∧
    (∀ n tm, s.phase = .starting → s.loader = .waiting n tm →
      exec .loaderRetryWaitExpiry s =
        .next ({ s.reachDue tm with loader := .reading n } : State).drive)

/-- The last attempt completes: the image is rejected (R31), or accepted (R30) with the controller
enabled, the JOIN queued, and the fence unit set for the start kind (R175, R176). -/
def Obligations.ImageRead : Prop :=
  ∀ (s : State) (bytes : List Byte) (n : Nat),
    s.phase = .starting → s.loader = .reading n → imageDelivered bytes = true →
    (imageSettings bytes = none →
      exec (.imageReadDone bytes) s =
        .next ({ s with loader := .idle, phase := .unconfigured } : State).drive) ∧
    (∀ g, imageSettings bytes = some g → s.membership.state = .offline →
      ∃ t, exec (.imageReadDone bytes) s = .next t ∧
        t.config = g ∧ t.phase = .running ∧ t.loader = .idle ∧ t.guardTime = s.guardTime ∧
        t.startKind = s.startKind ∧ t.admissions = s.admissions ∧ t.slots = s.slots ∧
        t.membership = { s.membership with state := .joining, outstanding := [⟨.start, .queued⟩] } ∧
        t.bus = ⟨.enabled, 0, 0, [],
          [⟨guardFrame g.ownDomain .join (joinPayload g.digest g.ownDomain s.startKind), 0⟩], none⟩ ∧
        (s.startKind = .powerOn → s.fence = Fence.start →
          t.fence.fenced = (g.fenceAtPowerOn || s.pins.fenceAsserted) ∧
          t.fence.causes = (if g.fenceAtPowerOn then FenceCause.powerOn.bit else 0) |||
            (if s.pins.fenceAsserted then FenceCause.line.bit else 0)) ∧
        (s.startKind = .lineReset →
          t.fence.fenced = (s.fence.fenced || (s.fence.marker && g.fenceAfterLineReset) ||
            (s.pins.fenceAsserted && !s.fence.hasCause .line)) ∧
          t.fence.marker = false ∧
          (s.pins.fenceAsserted = true →
            t.fence.causes = s.fence.causes ||| FenceCause.line.bit |||
              (if s.fence.marker && g.fenceAfterLineReset then FenceCause.restart.bit else 0)) ∧
          (s.pins.fenceAsserted = false →
            t.fence.causes = (s.fence.causes |||
              (if s.fence.marker && g.fenceAfterLineReset then FenceCause.restart.bit else 0)) &&&
                ~~~FenceCause.line.bit)))

/-- The FENCE line asserted and released (R169); FENCE and LIFT frames (R172, R174): the judgement in its
order, the effect and one RESULT. That the RESULT of a FENCE is offered after the frames of the fence
entry is the model's choice (log entry 32). -/
def Obligations.FenceLineAndFrames : Prop :=
  (∀ s : State,
     (s.pins.fenceAsserted = false →
       (s.phase = .running →
         exec .fenceLineAssertion s =
           .next (({ s with pins := { s.pins with fenceAsserted := true } } : State).takeFenceCause .line
             ⟨.fence .line, none, none, none, none, s.guardTime, .opened, none⟩).drive) ∧
       (s.phase ≠ .running →
         exec .fenceLineAssertion s =
           .next ({ s with pins := { s.pins with fenceAsserted := true } } : State).drive)) ∧
     (s.pins.fenceAsserted = true →
       (s.phase = .running →
         exec .fenceLineRelease s = .next ({ s with
           pins := { s.pins with fenceAsserted := false }
           fence := { s.fence with
             causes := s.fence.causes &&& ~~~FenceCause.line.bit } } : State).drive) ∧
       (s.phase ≠ .running →
         exec .fenceLineRelease s =
           .next ({ s with pins := { s.pins with fenceAsserted := false } } : State).drive))) ∧
  (∀ (s : State) (t : Tester) (p : List Byte) (rest : List RxEntry), s.testerHead .fence t p rest →
    let u := s.afterTesterHead t
    let told (w : State) (b : Byte) := (w.offerResult .fence t 0x00#8 b noClaim).drive
    (s.admitted t = false →
      exec .fenceFramePassage s = .next (told u Reason.notAdmitted)) ∧
    (s.admitted t = true → s.grants t .fence = false →
      exec .fenceFramePassage s = .next (told u Reason.capability)) ∧
    (s.grants t .fence = true → s.fence.fenced = true → s.fence.hasCause .tester = true →
      exec .fenceFramePassage s = .next (told u Reason.already)) ∧
    (s.grants t .fence = true → (s.fence.fenced = false ∨ s.fence.hasCause .tester = false) →
      exec .fenceFramePassage s = .next (told (u.takeFenceCause .tester
        ⟨.fence .tester, none, some t, none, none, s.guardTime, .opened, none⟩) Reason.ok))) ∧
  (∀ (s : State) (t : Tester) (p : List Byte) (rest : List RxEntry), s.testerHead .lift t p rest →
    let u := s.afterTesterHead t
    let told (w : State) (b : Byte) := (w.offerResult .lift t 0x00#8 b noClaim).drive
    (s.admitted t = false → exec .liftPassage s = .next (told u Reason.notAdmitted)) ∧
    (s.admitted t = true → s.grants t .fence = false →
      exec .liftPassage s = .next (told u Reason.capability)) ∧
    (s.grants t .fence = true → s.pins.fenceAsserted = true →
      exec .liftPassage s = .next (told u Reason.lineActive)) ∧
    (s.grants t .fence = true → s.pins.fenceAsserted = false → s.fence.fenced = false →
      exec .liftPassage s = .next (told u Reason.already)) ∧
    (s.grants t .fence = true → s.pins.fenceAsserted = false → s.fence.fenced = true →
      exec .liftPassage s = .next (told
        ((({ u with fence := { u.fence with
            fenced := false, causes := 0, marker := false
            current := u.fence.current.map (fun i =>
              if i.openFence then { i with status := .closed, outcome := some .lifted } else i) } } :
          State).queueNotice
            ⟨.lifted, s.guardTime, some t, none, noClaim, none, Reason.ok, false⟩).post .lifted
              (some t) none none 0x00#8) Reason.ok)))

/-! ## The backbone controller -/

/-- A frame of another station completes: stored, discarded with a loss event, dropped and counted, or
ignored (R8, R10); and which frames the acceptance rule keeps or counts (R8). -/
def Obligations.FrameReceived : Prop :=
  (∀ (s : State) (f : BusFrame), s.onBackbone = true →
    let u : State := { s with bus := { s.bus with rxErrors := s.bus.rxErrors - 1 } }
    let x := Frame.ofIdent f.ident f.payload
    ((f.format = .base ∨ f.format = .remote) → exec (.frameReceived f) s = .next u.drive) ∧
    ((f.format = .classicExtended ∨ f.format = .fdExtended) →
      (acceptance s.config x = .ignore → exec (.frameReceived f) s = .next u.drive) ∧
      (acceptance s.config x = .dropCounted →
        exec (.frameReceived f) s = .next (u.count Counter.foreignFrames).drive) ∧
      (acceptance s.config x = .keep → s.bus.rxFifo.length + (if s.bus.sending.isSome then 1 else 0) < 32 →
        exec (.frameReceived f) s = .next ({ u with bus := { u.bus with
          rxFifo := s.bus.rxFifo ++ [⟨x, false, 0⟩] } } : State).drive) ∧
      (acceptance s.config x = .keep → 32 ≤ s.bus.rxFifo.length + (if s.bus.sending.isSome then 1 else 0) →
        exec (.frameReceived f) s = .next (u.count Counter.rxLosses).lossEvent.drive))) ∧
  (∀ (g : Settings) (x : Frame),
    (acceptance g x = .keep ↔
      (∃ t : Tester, x.source = testerAddress t) ∨
      (∃ d : Domain, x.source = guardAddress d ∧ d ≠ g.ownDomain ∧ inSet d g.domainMap = true ∧
        ∃ k, x.kind? = some k ∧ k.guardKind = true)) ∧
    (acceptance g x = .ignore ↔
      (∃ d : Domain, x.source = guardAddress d ∧ d ≠ g.ownDomain ∧ inSet d g.domainMap = true) ∧
      (∀ k, x.kind? = some k → k.guardKind = false) ∧
      x.target ≠ guardAddress g.ownDomain ∧ x.target ≠ 0xFF#8))

/-- Arbitration starts with the entry of lowest urgency value, the earliest among equals, and is lost
with the entry kept (R12); an own frame completes (R4, R11); the waiting REVOKE_DOMAIN joins (R13);
the segmenter's next segment joins (R156). -/
def Obligations.Sending : Prop :=
  (∀ s : State, s.onBackbone = true →
    (s.bus.sending = none → s.bus.rxFifo.length < 32 → s.revokeCanJoin = false →
      exec .arbitrationStart s =
        .next ({ s with bus := { s.bus with sending := chooseEntry s.bus.txQueue } } : State).drive) ∧
    exec .arbitrationLost s = .next ({ s with bus := { s.bus with sending := none } } : State).drive ∧
    (∀ i e, s.bus.sending = some i → s.bus.txQueue[i]? = some e →
      exec .echo s = .next ((State.noteCompleted { s with bus := { s.bus with
        txErrors := s.bus.txErrors - 1
        rxFifo := s.bus.rxFifo ++ [⟨e.frame, true, e.blocks⟩]
        txQueue := s.bus.txQueue.eraseIdx i
        sending := none } } e.frame.kind?).drive)) ∧
    (∀ c, s.bus.txQueue.length < 24 →
      s.membership.outstanding.find? (fun c => c.progress == .waiting) = some c →
      exec .waitingRevokeDomainJoins s = .next ({ s with
        bus := { s.bus with txQueue := s.bus.txQueue ++ [⟨s.revokeFrame c.reason, 0⟩] }
        membership := { s.membership with
          outstanding := queueWaiting s.membership.outstanding } } : State).drive) ∧
    (∀ a others, s.roomForTester = true → s.revokeWaits = false → s.memory.replies = a :: others →
      exec .replySegmenterOffer s = .next ({ s with
        bus := { s.bus with txQueue := s.bus.txQueue ++
          [⟨testerFrame s.config.ownDomain a.kind a.tester a.payload,
            blocksOfSegment a.data.length a.next⟩] }
        memory := { s.memory with
          replies := if a.next + 1 < segmentCount a.data.length
            then { a with next := a.next + 1 } :: others else others } } : State).drive)) ∧
  (∀ (q : List TxEntry) (i : Nat), chooseEntry q = some i →
    ∃ e, q[i]? = some e ∧ ∀ j x, q[j]? = some x →
      e.frame.urgency.toNat ≤ x.frame.urgency.toNat ∧
        (x.frame.urgency = e.frame.urgency → i ≤ j)) ∧
  (∀ q : List TxEntry, chooseEntry q = none ↔ q = [])

/-- Errors on the bus, the bus-loss event in every unit, and the bus-return event: the controller is
enabled afresh and JOIN(BUS_RETURN) is queued (R15, R16, R43, R44, R159). -/
def Obligations.BusErrorsAndReturn : Prop :=
  (∀ s : State, s.onBackbone = true →
     exec .receiveError s =
       .next ({ s with bus := { s.bus with rxErrors := s.bus.rxErrors + 1 } } : State).drive ∧
     (s.bus.sending.isSome = true → s.bus.txErrors + 8 ≤ 255 →
       exec .transmitError s =
         .next ({ s with bus := { s.bus with txErrors := s.bus.txErrors + 8 } } : State).drive) ∧
     (s.bus.sending.isSome = true → 255 < s.bus.txErrors + 8 →
       ∃ t, exec .transmitError s = .next t ∧
         t.bus = ⟨.busOff, s.bus.txErrors + 8, s.bus.rxErrors, [], [], none⟩ ∧
         t.membership = { s.membership with state := .offline, outstanding := [], presentOwed := false } ∧
         t.memory.lanes = Vector.replicate 14 .free ∧ t.memory.replies = [] ∧
         t.delivery.queue = [] ∧ t.delivery.lastStamp = s.delivery.lastStamp ∧
         t.hold.reservations = [] ∧ t.hold.nextSeq = s.hold.nextSeq ∧
         t.hold.view.map Record.replicated = s.hold.view.map Record.replicated ∧
         (∀ r ∈ t.hold.view, r.breakSent = false ∧ r.cancelSent = false) ∧
         (∀ v, s.delivery.service = some v → v.cls.effecting = false → t.delivery.service = none) ∧
         (∀ v, s.delivery.service = some v → v.cls.effecting = true → s.fence.stop = none →
           t.delivery.service = some { v with limit := none } ∧
           t.fence.stop = some ⟨v.tester, v.tag, v.claim, v.cls, .busLoss,
             ⟨s.guardTime, s.config.timing.stopLimit⟩, false⟩) ∧
         (∀ o, s.fence.stop = some o → t.fence.stop = some o) ∧
         t.admissions = s.admissions ∧ t.trail.counters = s.trail.counters ∧
         t.slots = s.slots ∧ t.config = s.config)) ∧
  (∀ s : State, s.phase = .running → s.bus.mode = .busOff →
     exec .busReturn s = .next ({ s with
       bus := ⟨.enabled, 0, 0, [], [⟨guardFrame s.config.ownDomain .join
         (joinPayload s.config.digest s.config.ownDomain .busReturn), 0⟩], none⟩
       membership := { s.membership with
         state := .joining, outstanding := [⟨.start, .queued⟩] } } : State).drive)

/-- The passages that only the request memory or the admission unit sees: an echoed answer segment
frees its blocks (R137), another echo to a tester changes nothing (R7), and a tester frame kept for
refresh only is counted where R8 says; and what a quiet refresh does (R55). -/
def Obligations.PlainPassages : Prop :=
  ∀ (s : State) (e : RxEntry) (rest : List RxEntry), s.phase = .running → s.bus.rxFifo = e :: rest →
    (e.echo = true → e.frame.isSort FrameKind.answerKind = true →
      exec .answerSegmentEcho s = .next ({ s with
        bus := { s.bus with rxFifo := rest }
        memory := { s.memory with free := s.memory.free + e.blocks } } : State).drive) ∧
    (e.echo = true → e.frame.isSort FrameKind.statusKind = true →
      exec .statusFrameEcho s = .next ({ s with bus := { s.bus with rxFifo := rest } } : State).drive) ∧
    (∀ t, e.echo = false → testerOf e.frame.source = some t → refreshOnly s.config e.frame = true →
      (refreshCounted s.config e.frame = false →
        exec .refreshOnlyPassage s = .next (s.afterTesterHead t).drive) ∧
      (refreshCounted s.config e.frame = true →
        exec .refreshOnlyPassage s =
          .next ((s.afterTesterHead t).count Counter.foreignFrames).drive)) ∧
    (∀ t : Tester,
      (∀ k, s.ticket t = some k →
        s.afterTesterHead t = { s with
          bus := { s.bus with rxFifo := rest }
          admissions := s.admissions.set t.val
            ⟨some { k with quiet := ⟨s.guardTime, 1000 * s.config.timing.testerQuiet⟩ },
              s.admissions[t].lastEnd⟩ t.isLt }) ∧
      (s.ticket t = none → s.afterTesterHead t = { s with bus := { s.bus with rxFifo := rest } }))

/-! ## Membership passages -/

/-- A frame whose payload is too short for its kind is dropped and counted; a tester's still refreshes
its quiet timer (R8). A command naming the passage of another frame than the head changes nothing (the
model's choice, log entry 1). -/
def Obligations.FramesDropped : Prop :=
  ∀ (c : Instr) (s : State) (e : RxEntry) (rest : List RxEntry),
    s.phase = .running → s.bus.rxFifo = e :: rest →
    (∀ k row, testerRow c = some (k, row) →
      (∀ t, testerSender s.config k e = some t → row e.frame.payload = true →
        e.frame.payload.length < k.minLength →
        exec c s = .next ((s.afterTesterHead t).count Counter.foreignFrames).drive) ∧
      (testerSender s.config k e = none ∨ row e.frame.payload = false → exec c s = .next s.drive)) ∧
    (∀ k row, guardRow c = some (k, row) →
      (∀ d, guardSender s.config e.frame = some d → e.frame.kind? = some k → row e = true →
        e.frame.payload.length < k.minLength →
        exec c s = .next (s.popHead.count Counter.foreignFrames).drive) ∧
      (guardSender s.config e.frame = none ∨ e.frame.kind? ≠ some k ∨ row e = false →
        exec c s = .next s.drive))

/-- JOIN and PRESENT passages (R34, R37, R40, R41), and what a clearing frame removes (R133). That the
removals stand before the membership state's change and the frames offered is the model's choice (log
entry 14). -/
def Obligations.JoinAndPresent : Prop :=
  (∀ (s : State) (d : Domain) (p : List Byte) (rest : List RxEntry), s.guardHead .join true d p rest →
    let u := (({ s.popHead with membership := { s.membership with
      outstanding := s.membership.outstanding.eraseP
        (fun c => c.isJoin == true && c.isCompleted) } } : State).setRoster d (word32At p 0)
          (StartKind.ofCode (byteAt p 5))).clearRecords s.config.ownDomain Reason.peerRestart
    (s.coveringPassage true = true →
      exec .ownJoinPassage s =
        .next ({ u with membership := { u.membership with state := .member } } : State).drive) ∧
    (s.coveringPassage true = false →
      (u.membership.outstanding ≠ [] →
        exec .ownJoinPassage s =
          .next ({ u with membership := { u.membership with state := .resync } } : State).drive) ∧
      (u.membership.outstanding = [] →
        exec .ownJoinPassage s = .next (({ u with membership := { u.membership with
          state := .resync } } : State).offerRevoke .resync).drive))) ∧
  (∀ (s : State) (d : Domain) (p : List Byte) (rest : List RxEntry), s.guardHead .join false d p rest →
    (∀ k, byteAt p 4 = nat8 d.val → StartKind.ofCode (byteAt p 5) = some k →
      let u := (s.popHead.setRoster d (word32At p 0) (some k)).clearRecords d Reason.peerRestart
      (s.membership.state = .member → exec .peerJoinPassage s = .next u.offerPresent.drive) ∧
      (s.membership.state = .resync → exec .peerJoinPassage s =
        .next ({ u with membership := { u.membership with presentOwed := true } } : State).drive) ∧
      (s.membership.state = .joining → exec .peerJoinPassage s = .next u.drive)) ∧
    (byteAt p 4 ≠ nat8 d.val ∨ StartKind.ofCode (byteAt p 5) = none →
      exec .peerJoinPassage s = .next (s.popHead.count Counter.foreignFrames).drive)) ∧
  (∀ (s : State) (echo : Bool) (d : Domain) (p : List Byte) (rest : List RxEntry),
    s.guardHead .present echo d p rest →
    (echo = true → exec .presentPassage s = .next s.popHead.drive) ∧
    (echo = false → byteAt p 4 = nat8 d.val →
      exec .presentPassage s = .next (s.popHead.setRoster d (word32At p 0) none).drive) ∧
    (echo = false → byteAt p 4 ≠ nat8 d.val →
      exec .presentPassage s = .next (s.popHead.count Counter.foreignFrames).drive)) ∧
  (∀ (s : State) (d : Domain) (x : BitVec 32) (k : Option StartKind),
    s.setRoster d x k = { s with membership := { s.membership with
      roster := s.membership.roster.set d.val
        ⟨if x = s.config.digest then .present else .foreign, some x,
          (match k with | some y => some y | none => s.membership.roster[d].startKind),
          some s.guardTime⟩ d.isLt } }) ∧
  (∀ (s : State) (d : Domain) (b : Byte), s.viewSound = true →
    ((s.clearRecords d b).hold.view.map Record.replicated =
      (s.hold.view.filter fun r => !(d == s.config.ownDomain || inSet d r.scope)).map
        Record.replicated) ∧
    (s.clearRecords d b).hold.reservations = s.hold.reservations)

/-- REVOKE_DOMAIN passages (R38, R42): the records removed, the REVOKED_DOMAIN entry posted, and for the
guard's own the membership state after. That order is the model's choice (log entry 14). -/
def Obligations.RevokePassages : Prop :=
  (∀ (s : State) (d : Domain) (p : List Byte) (rest : List RxEntry),
    s.guardHead .revokeDomain true d p rest →
    let u := (({ s.popHead with membership := { s.membership with
        outstanding := s.membership.outstanding.eraseP
          (fun c => c.isJoin == false && c.isCompleted) } } : State).clearRecords s.config.ownDomain
            (byteAt p 1)).post .revokedDomain none none none (nat8 (16 * d.val) ||| byteAt p 1)
    (s.membership.state ≠ .resync → exec .ownRevokeDomainPassage s = .next u.drive) ∧
    (s.membership.state = .resync → s.coveringPassage false = true →
      let m : State := { u with membership := { u.membership with state := .member } }
      (s.membership.presentOwed = false → exec .ownRevokeDomainPassage s = .next m.drive) ∧
      (s.membership.presentOwed = true →
        exec .ownRevokeDomainPassage s = .next m.offerPresent.drive)) ∧
    (s.membership.state = .resync → s.coveringPassage false = false →
      (u.membership.outstanding ≠ [] → exec .ownRevokeDomainPassage s = .next u.drive) ∧
      (u.membership.outstanding = [] →
        exec .ownRevokeDomainPassage s = .next (u.offerRevoke .resync).drive))) ∧
  (∀ (s : State) (d : Domain) (p : List Byte) (rest : List RxEntry),
    s.guardHead .revokeDomain false d p rest →
    (byteAt p 0 = nat8 d.val ∧ (byteAt p 1 = Reason.revoked ∨ byteAt p 1 = Reason.resync) →
      exec .peerRevokeDomainPassage s = .next ((s.popHead.clearRecords d (byteAt p 1)).post
        .revokedDomain none none none (nat8 (16 * d.val) ||| byteAt p 1)).drive) ∧
    (¬(byteAt p 0 = nat8 d.val ∧ (byteAt p 1 = Reason.revoked ∨ byteAt p 1 = Reason.resync)) →
      exec .peerRevokeDomainPassage s =
        .next (s.popHead.count Counter.foreignFrames).drive)) ∧
  (∀ s : State,
    s.offerPresent =
      ({ s with membership := { s.membership with presentOwed := !s.takesProtocol } } : State).offerProtocol
        .present (presentPayload s.config.digest s.config.ownDomain))

/-! ## Negotiation -/

/-- A CLAIM at its passage: the nine checks of R94 together decide acceptance, and the first that fails
gives the reason; a refusal by R95; an acceptance by R96 and R97. -/
def Obligations.ClaimPassage : Prop :=
  (∀ (s : State) (t : Tester) (p : List Byte) (rest : List RxEntry), s.testerHead .claim t p rest →
    let u := s.afterTesterHead t
    (∀ r, u.judgeClaim t (byteAt p 0) = .inl r →
      exec .claimPassage s = .next
        (((u.offerStatus .claimStatus t
          (claimStatusPayload noClaim (byteAt p 4) statusRefused r (byteAt p 0) 0)).count
            Counter.claimRefused).post .refused (some t) none
              (Class.ofNumber (byteAt p 0).toNat) r).drive) ∧
    (∀ k, u.judgeClaim t (byteAt p 0) = .inr k →
      let v := u.newReservation t p k
      let w : State := { u with hold := { u.hold with
        reservations := u.hold.reservations ++ [v], nextSeq := u.nextFreeSeq + 1 } }
      (u.takesProtocol = true →
        exec .claimPassage s = .next (w.joinQueue (guardFrame s.config.ownDomain .announce
          (announcePayload v.id .fresh t k v.scope v.paced v.oneShot)) 0).drive) ∧
      (u.takesProtocol = false →
        exec .claimPassage s = .next
          (((((w.offerProtocol .announce v.announce).releaseReservation v.id).offerClaimStatus
            t v.id v.tag statusRefused Reason.notReady k v.lease).count
              Counter.claimRefused).post .refused none (some v.id) none Reason.notReady).drive))) ∧
  (∀ (s : State) (t : Tester) (b : Byte) (k : Sys2Proof.Class),
    s.judgeClaim t b = .inr k ↔
      s.membership.state = .member ∧ s.admitted t = true ∧ Class.ofNumber b.toNat = some k ∧
      k.effecting = true ∧ s.grants t k = true ∧ s.fence.fenced = false ∧ s.claimCount t < 4 ∧
      (∀ d, inSet d (s.config.scope k s.config.ownDomain) = true →
        (s.membership.roster[d]).state = .present) ∧
      s.conditionsMet k = true ∧ s.hold.view.length + s.hold.reservations.length < 24 ∧
      s.conflicts k = false) ∧
  (∀ (s : State) (t : Tester) (b : Byte),
    (s.membership.state ≠ .member → s.judgeClaim t b = .inl Reason.notReady) ∧
    (s.membership.state = .member → s.admitted t = false →
      s.judgeClaim t b = .inl Reason.notAdmitted) ∧
    (s.membership.state = .member → s.admitted t = true →
      (∀ k, Class.ofNumber b.toNat = some k → k.effecting = true → s.grants t k = false) →
      s.judgeClaim t b = .inl Reason.capability) ∧
    (∀ k, s.membership.state = .member → s.admitted t = true → Class.ofNumber b.toNat = some k →
      k.effecting = true → s.grants t k = true →
      (s.fence.fenced = true → s.judgeClaim t b = .inl Reason.fenced) ∧
      (s.fence.fenced = false → 4 ≤ s.claimCount t → s.judgeClaim t b = .inl Reason.claimLimit) ∧
      (s.fence.fenced = false → s.claimCount t < 4 →
        (∀ d : Domain, inSet d (s.config.scope k s.config.ownDomain) = true →
          (s.membership.roster[d]).state ≠ .present →
          (∀ x : Domain, x.val < d.val → inSet x (s.config.scope k s.config.ownDomain) = true →
            (s.membership.roster[x]).state = .present) →
          s.judgeClaim t b = .inl (if (s.membership.roster[d]).state = .foreign
            then Reason.mismatch else Reason.peerAbsent)) ∧
        ((∀ d : Domain, inSet d (s.config.scope k s.config.ownDomain) = true →
            (s.membership.roster[d]).state = .present) →
          (s.conditionsMet k = false → s.judgeClaim t b = .inl Reason.condition) ∧
          (s.conditionsMet k = true → 24 ≤ s.hold.view.length + s.hold.reservations.length →
            s.judgeClaim t b = .inl Reason.tableFull) ∧
          (s.conditionsMet k = true → s.hold.view.length + s.hold.reservations.length < 24 →
            s.conflicts k = true → s.judgeClaim t b = .inl Reason.conflict)))))

/-- An ANNOUNCE of kind NEW at a guard in its scope: a voter votes (R98, R99), the sponsor evaluates its
own (R100); for each the first check that fails gives the reason. -/
def Obligations.AnnounceNew : Prop :=
  (∀ (s : State) (echo : Bool) (d : Domain) (p : List Byte) (rest : List RxEntry),
    s.guardHead .announce echo d p rest → announceKindAt p = some .fresh →
    let u := s.popHead
    (inSet s.config.ownDomain (announceScope p) = false →
      exec .announceNewPassage s = .next u.drive) ∧
    (inSet s.config.ownDomain (announceScope p) = true → readAnnounce d p = none →
      exec .announceNewPassage s = .next (u.count Counter.foreignFrames).drive) ∧
    (∀ a, inSet s.config.ownDomain (announceScope p) = true → readAnnounce d p = some a →
      (d ≠ s.config.ownDomain → u.voterNewReason d a = none →
        exec .announceNewPassage s = .next ((u.createRecord (a.record
          (some ⟨s.guardTime, s.config.timing.consentHold⟩) none)).offerProtocol .consent
            (votePayload a.id .fresh Reason.ok)).drive) ∧
      (∀ r, d ≠ s.config.ownDomain → u.voterNewReason d a = some r →
        exec .announceNewPassage s =
          .next (u.offerProtocol .object (votePayload a.id .fresh r)).drive) ∧
      (∀ v, d = s.config.ownDomain → s.reservation? a.id = some v →
        let w := u.releaseReservation a.id
        (∀ r, u.sponsorNewReason v a = some r →
          exec .announceNewPassage s = .next
            ((((w.offerProtocol .verdict (verdictPayload a.id .refused r)).offerClaimStatus
              a.tester a.id v.tag statusRefused r a.cls v.lease).count Counter.claimRefused).post
                .refused none none none r).drive) ∧
        (u.sponsorNewReason v a = none → a.scope ≠ onlyDomain d →
          exec .announceNewPassage s = .next
            ((w.createRecord (a.record none (some (v.sponsorPart d
              (some ⟨s.guardTime, s.config.timing.claimWindow⟩))))).offerClaimStatus
                a.tester a.id v.tag ClaimState.pending.code Reason.ok a.cls v.lease).drive) ∧
        (u.sponsorNewReason v a = none → a.scope = onlyDomain d →
          exec .announceNewPassage s = .next
            (((w.createRecord (a.record none (some (v.sponsorPart d none)))).offerClaimStatus
                a.tester a.id v.tag ClaimState.pending.code Reason.ok a.cls v.lease).decideClaim
                  a.id .granted Reason.ok).drive)))) ∧
  (∀ (s : State) (d : Domain) (a : Announce),
    s.voterNewReason d a = none ↔
      s.membership.state = .member ∧ s.fence.fenced = false ∧
      (s.membership.roster[d]).state = .present ∧ a.scope = s.config.scope a.cls d ∧
      s.record? a.id = none ∧ s.conditionsMet a.cls = true ∧
      s.hold.view.length + s.hold.reservations.length < 24 ∧ s.conflicts a.cls = false) ∧
  (∀ (s : State) (v : Reservation) (a : Announce),
    s.sponsorNewReason v a = none ↔
      s.membership.state = .member ∧ s.admitted v.tester = true ∧ s.fence.fenced = false ∧
      s.conditionsMet a.cls = true ∧ s.conflicts a.cls = false) ∧
  (∀ (s : State) (d : Domain) (a : Announce),
    s.voterNewReason d a =
      if s.membership.state ≠ .member then some Reason.notReady
      else if s.fence.fenced = true then some Reason.fenced
      else if ¬((s.membership.roster[d]).state = .present ∧ a.scope = s.config.scope a.cls d ∧
        s.record? a.id = none) then some Reason.mismatch
      else if s.conditionsMet a.cls = false then some Reason.condition
      else if 24 ≤ s.hold.view.length + s.hold.reservations.length then some Reason.tableFull
      else if s.conflicts a.cls = true then some Reason.conflict
      else none) ∧
  (∀ (s : State) (v : Reservation) (a : Announce),
    s.sponsorNewReason v a =
      if s.membership.state ≠ .member then some Reason.notReady
      else if s.admitted v.tester = false then some Reason.notAdmitted
      else if s.fence.fenced = true then some Reason.fenced
      else if s.conditionsMet a.cls = false then some Reason.condition
      else if s.conflicts a.cls = true then some Reason.conflict
      else none)

/-- An ANNOUNCE of kind RESUME at a guard in its scope: a voter's record moves to RESUMING whatever its
vote (R103); the sponsor evaluates its own (R104), with no decision while ENDING (R127). The checks of
both, in their order. -/
def Obligations.AnnounceResume : Prop :=
  (∀ (s : State) (echo : Bool) (d : Domain) (p : List Byte) (rest : List RxEntry) (a : Announce),
    s.guardHead .announce echo d p rest → announceKindAt p = some .resume →
    inSet s.config.ownDomain (announceScope p) = true → readAnnounce d p = some a →
    let u := s.popHead
    (d ≠ s.config.ownDomain →
      (∀ r, s.record? a.id = some r → r.state = .suspended →
        (u.voterResumeReason a.id = none →
          exec .announceResumePassage s = .next
            ((u.updateRecord a.id fun r => { r with
              state := .resuming, consented := true
              holdTimer := some ⟨s.guardTime, s.config.timing.consentHold⟩ }).offerProtocol .consent
                (votePayload a.id .resume Reason.ok)).drive) ∧
        (∀ x, u.voterResumeReason a.id = some x →
          exec .announceResumePassage s = .next
            ((u.updateRecord a.id fun r => { r with
              state := .resuming, consented := false, holdTimer := none }).offerProtocol .object
                (votePayload a.id .resume x)).drive)) ∧
      ((∀ r, s.record? a.id = some r → r.state ≠ .suspended) →
        ∃ x, u.voterResumeReason a.id = some x ∧
          exec .announceResumePassage s =
            .next (u.offerProtocol .object (votePayload a.id .resume x)).drive)) ∧
    (∀ r q, d = s.config.ownDomain → s.standing a.id = .here r q → r.state = .suspended →
      (∀ x, u.resumeReason r.cls = some x →
        let w := u.updateRecord r.id fun y => { y with state := .resuming, consented := false }
        (q.ending = true → exec .announceResumePassage s = .next w.drive) ∧
        (q.ending = false →
          exec .announceResumePassage s = .next (w.decideClaim r.id .refused x).drive)) ∧
      (u.resumeReason r.cls = none →
        let w := u.updateRecord r.id fun y => { y with state := .resuming, consented := true }
        (q.ending = true → exec .announceResumePassage s = .next
          (w.updateSponsor r.id fun y =>
            { y with consentSet := onlyDomain d, window := none }).drive) ∧
        (q.ending = false → r.scope ≠ onlyDomain d → exec .announceResumePassage s = .next
          ((w.updateSponsor r.id fun y =>
            { y with consentSet := onlyDomain d
                     window := some ⟨s.guardTime, s.config.timing.claimWindow⟩ }).reportClaim
              r q ClaimState.resuming.code Reason.ok).drive) ∧
        (q.ending = false → r.scope = onlyDomain d → exec .announceResumePassage s = .next
          (((w.updateSponsor r.id fun y =>
            { y with consentSet := onlyDomain d, window := none }).reportClaim
              r q ClaimState.resuming.code Reason.ok).decideClaim r.id .resumed Reason.ok).drive)))) ∧
  (∀ (s : State) (id : ClaimId),
    (s.voterResumeReason id = none ↔
      s.membership.state = .member ∧ s.fence.fenced = false ∧
      ∃ r, s.record? id = some r ∧ r.state = .suspended ∧ s.conditionsMet r.cls = true) ∧
    (∀ r, s.record? id = some r → r.state = .suspended →
      s.voterResumeReason id = s.resumeReason r.cls) ∧
    ((∀ r, s.record? id = some r → r.state ≠ .suspended) →
      s.voterResumeReason id =
        if s.membership.state ≠ .member then some Reason.notReady
        else if s.fence.fenced = true then some Reason.fenced
        else some Reason.mismatch)) ∧
  (∀ (s : State) (k : Sys2Proof.Class),
    (s.resumeReason k = none ↔
      s.membership.state = .member ∧ s.fence.fenced = false ∧ s.conditionsMet k = true) ∧
    s.resumeReason k =
      if s.membership.state ≠ .member then some Reason.notReady
      else if s.fence.fenced = true then some Reason.fenced
      else if s.conditionsMet k = false then some Reason.condition
      else none)

/-- CONSENT and OBJECT passages (R107 to R109), and what a decision does (R105). -/
def Obligations.Votes : Prop :=
  (∀ (s : State) (echo : Bool) (d : Domain) (p : List Byte) (rest : List RxEntry) (c : Instr),
    ((c = .consentPassage ∧ s.guardHead .consent echo d p rest) ∨
      (c = .objectPassage ∧ s.guardHead .object echo d p rest)) →
    let u := s.popHead
    (homeOf (word16At p 0) ≠ s.config.ownDomain.val → exec c s = .next u.drive) ∧
    (homeOf (word16At p 0) = s.config.ownDomain.val →
      (s.record? (word16At p 0) = none → exec c s = .next (u.count Counter.lateVotes).drive) ∧
      (∀ r, s.record? (word16At p 0) = some r → inSet d r.scope = false ∨ d = s.config.ownDomain →
        exec c s = .next (u.count Counter.foreignFrames).drive) ∧
      (∀ r q, s.standing (word16At p 0) = .here r q → inSet d r.scope = true →
        d ≠ s.config.ownDomain →
        (undecided r q = false ∨ voteMatches p r = false →
          exec c s = .next (u.count Counter.lateVotes).drive) ∧
        (undecided r q = true → voteMatches p r = true →
          (c = .objectPassage →
            exec c s = .next (u.decideClaim r.id .refused (byteAt p 3)).drive) ∧
          (c = .consentPassage →
            let w := u.updateSponsor r.id fun y =>
              { y with consentSet := q.consentSet ||| onlyDomain d }
            (q.consentSet ||| onlyDomain d ≠ r.scope → exec c s = .next w.drive) ∧
            (q.consentSet ||| onlyDomain d = r.scope → r.state = .pending →
              exec c s = .next (w.decideClaim r.id .granted Reason.ok).drive) ∧
            (q.consentSet ||| onlyDomain d = r.scope → r.state = .resuming →
              exec c s = .next (w.decideClaim r.id .resumed Reason.ok).drive)))))) ∧
  (∀ (s : State) (id : ClaimId) (o : VerdictOutcome) (b : Byte),
    s.decideClaim id o b =
      (s.updateSponsor id fun y => { y with decided := true, window := none }).offerProtocol .verdict
        (verdictPayload id o b))

/-- VERDICT and CANCEL passages (R110, R111, R113): the table of R110 by outcome and state. -/
def Obligations.VerdictsAndCancel : Prop :=
  (∀ (s : State) (echo : Bool) (d : Domain) (p : List Byte) (rest : List RxEntry)
      (c : Instr) (o : VerdictOutcome),
    s.guardHead .verdict echo d p rest →
    ((c = .verdictGranted ∧ o = .granted) ∨ (c = .verdictResumed ∧ o = .resumed) ∨
      (c = .verdictRefused ∧ o = .refused) ∨ (c = .verdictLapsed ∧ o = .lapsed)) →
    (verdictOutcomeAt p = none → exec c s = .next (s.popHead.count Counter.foreignFrames).drive) ∧
    (verdictOutcomeAt p = some o →
      (homeOf (word16At p 0) ≠ d.val →
        exec c s = .next (s.popHead.count Counter.foreignFrames).drive) ∧
      (homeOf (word16At p 0) = d.val →
        let u := s.popHead.updateSponsor (word16At p 0) fun y => { y with decided := false }
        (u.record? (word16At p 0) = none → exec c s = .next u.drive) ∧
        (∀ r, u.record? (word16At p 0) = some r →
          (o = .granted → r.state = .pending →
            exec c s = .next (u.holdClaim r .claimBegin .granted).drive) ∧
          (o = .resumed → r.state = .resuming →
            exec c s = .next (u.holdClaim r .claimResumed .resumed).drive) ∧
          (o = .refused → r.state = .pending ∨ r.state = .resuming →
            exec c s = .next (u.settleAgainst r (byteAt p 3) (some r.id)).drive) ∧
          (o = .lapsed → r.state = .pending ∨ r.state = .resuming →
            exec c s = .next (u.settleAgainst r Reason.lapsed (some r.id)).drive) ∧
          ((r.state = .held ∨ r.state = .suspended) ∨ (o = .granted ∧ r.state = .resuming) ∨
              (o = .resumed ∧ r.state = .pending) →
            exec c s = .next u.drive))))) ∧
  (∀ (s : State) (echo : Bool) (d : Domain) (p : List Byte) (rest : List RxEntry),
    s.guardHead .cancel echo d p rest →
    (s.record? (word16At p 0) = none → exec .cancelPassage s = .next s.popHead.drive) ∧
    (∀ r, s.record? (word16At p 0) = some r →
      (inSet d r.scope = false ∨ homeOf (word16At p 0) = d.val →
        exec .cancelPassage s = .next (s.popHead.count Counter.foreignFrames).drive) ∧
      (inSet d r.scope = true → homeOf (word16At p 0) ≠ d.val →
        let u := if echo then
          s.popHead.updateRecord (word16At p 0) fun y => { y with cancelSent := false } else s.popHead
        (r.state = .pending ∨ r.state = .resuming →
          exec .cancelPassage s = .next (u.settleAgainst r Reason.cancelled none).drive) ∧
        (r.state = .held ∨ r.state = .suspended → exec .cancelPassage s = .next u.drive)))) ∧
  (∀ (s : State) (r : Record) (n : NoticeKind) (e : TrailEvent),
    let w := s.updateRecord r.id fun y => { y with
      state := .held, consented := false, holdTimer := none
      sponsor := y.sponsor.map fun q => { q with
        window := none
        leaseTimer := if q.ending then none else some ⟨s.guardTime, 1000 * q.lease⟩
        credit := true } }
    (r.sponsor = none → s.holdClaim r n e = w) ∧
    (∀ q, r.sponsor = some q →
      s.holdClaim r n e =
        ((w.reportClaim r q ClaimState.held.code Reason.ok).claimNotice n r Reason.ok).post e
          (some r.tester) (some r.id) (some r.cls) 0x00#8)) ∧
  (∀ (s : State) (r : Record) (b : Byte) (i : Option ClaimId),
    (r.state = .pending →
      (r.sponsor = none → s.settleAgainst r b i = s.removeRecord r.id) ∧
      (∀ q, r.sponsor = some q → s.settleAgainst r b i =
        (((((s.removeRecord r.id).reportClaim r q statusRefused b).count Counter.claimRefused).post
          .refused none i none b).removeEntries (fun e => e.claim == r.id)
            (some Reason.claimNotHeld)))) ∧
    (r.state = .resuming →
      let w := s.updateRecord r.id fun y => { y with
        state := .suspended, consented := false, holdTimer := none
        sponsor := y.sponsor.map fun q => { q with window := none } }
      (r.sponsor = none → s.settleAgainst r b i = w) ∧
      (∀ q, r.sponsor = some q → s.settleAgainst r b i =
        (((w.reportClaim r q ClaimState.suspended.code b).count Counter.claimRefused).post
          .refused none none none b))))

/-! ## Held, suspended and ended claims -/

/-- BREAK and END passages (R125, R126, R129 to R131), by the record's state and its home. -/
def Obligations.BreakAndEnd : Prop :=
  (∀ (s : State) (echo : Bool) (d : Domain) (p : List Byte) (rest : List RxEntry),
    s.guardHead .breakClaim echo d p rest →
    (s.record? (word16At p 0) = none → exec .breakPassage s = .next s.popHead.drive) ∧
    (∀ r, s.record? (word16At p 0) = some r →
      (inSet d r.scope = false →
        exec .breakPassage s = .next (s.popHead.count Counter.foreignFrames).drive) ∧
      (inSet d r.scope = true →
        let u := if echo then
          s.popHead.updateRecord (word16At p 0) fun y => { y with breakSent := false } else s.popHead
        let w := u.updateRecord r.id fun y => { y with
          state := .suspended, consented := false, holdTimer := none
          sponsor := y.sponsor.map fun q => { q with window := none } }
        (r.state = .suspended → exec .breakPassage s = .next u.drive) ∧
        (r.sponsor = none → r.state = .pending →
          exec .breakPassage s = .next (u.removeRecord r.id).drive) ∧
        (r.sponsor = none → r.state = .held ∨ r.state = .resuming →
          exec .breakPassage s = .next w.drive) ∧
        (∀ q, r.sponsor = some q →
          (r.state = .pending → exec .breakPassage s = .next
            ((((((u.removeRecord r.id).removeEntries (fun e => e.claim == r.id)
              (some Reason.claimNotHeld)).reportClaim r q statusRefused Reason.condition).count
                Counter.claimRefused).post .refused none none none Reason.condition).drive)) ∧
          (r.state = .held → exec .breakPassage s = .next
            ((((w.handClaimChange r.id (some .breakClaim) Reason.stopped).claimNotice
              .claimSuspended r Reason.condition).reportClaim r q ClaimState.suspended.code
                Reason.condition).post .suspended (some r.tester) (some r.id) (some r.cls)
                  Reason.condition).drive) ∧
          (r.state = .resuming → exec .breakPassage s = .next
            (((w.reportClaim r q ClaimState.suspended.code Reason.condition).count
              Counter.claimRefused).post .refused none none none Reason.condition).drive))))) ∧
  (∀ (s : State) (echo : Bool) (d : Domain) (p : List Byte) (rest : List RxEntry),
    s.guardHead .endClaim echo d p rest →
    (homeOf (word16At p 0) ≠ d.val ∨ endReasonOk (byteAt p 2) = false →
      exec .endPassage s = .next (s.popHead.count Counter.foreignFrames).drive) ∧
    (homeOf (word16At p 0) = d.val → endReasonOk (byteAt p 2) = true →
      (s.record? (word16At p 0) = none → exec .endPassage s = .next s.popHead.drive) ∧
      (∀ r, s.record? (word16At p 0) = some r →
        let u := s.popHead.removeRecord r.id
        (r.sponsor = none → exec .endPassage s = .next u.drive) ∧
        (∀ q, r.sponsor = some q → exec .endPassage s = .next
          ((((u.handClaimChange r.id (some .endClaim) Reason.claimNotHeld).claimNotice .claimEnd r
            (byteAt p 2)).reportClaim r q statusEnded (byteAt p 2)).post .ended (some r.tester)
              (some r.id) (some r.cls) (byteAt p 2)).drive)))) ∧
  (∀ (s : State) (id : ClaimId) (c : StopCause) (b : Byte),
    ((∀ v, s.delivery.service = some v → v.claim ≠ id) →
      s.handClaimChange id (some c) b = s.removeEntries (fun e => e.claim == id) (some b)) ∧
    (∀ v, s.delivery.service = some v → v.claim = id →
      s.handClaimChange id (some c) b =
        (s.askStop c).removeEntries (fun e => e.claim == id) (some b)))

/-- A RENEW that passes R115 restarts the claim's lease, by the record's state at its passage (R116). -/
def Obligations.RenewPassage : Prop :=
  ∀ (s : State) (t : Tester) (p : List Byte) (rest : List RxEntry) (r : Record) (q : Sponsor),
    s.testerHead .renew t p rest → s.admitted t = true → s.standing (word16At p 0) = .here r q →
    r.tester = t →
    let u := s.afterTesterHead t
    (q.ending = true ∨ r.state = .pending →
      exec .renewPassage s =
        .next (u.reportClaim r q r.state.code Reason.claimNotHeld).drive) ∧
    (q.ending = false → r.state = .held ∨ r.state = .suspended ∨ r.state = .resuming →
      exec .renewPassage s = .next
        ((u.updateSponsor r.id fun y =>
          { y with leaseTimer := some ⟨s.guardTime, 1000 * q.lease⟩ }).reportClaim r q
            r.state.code Reason.ok).drive)

/-- A CONTINUE that passes R115 gives the claim its pace credit, by the record's state (R117). -/
def Obligations.ContinuePassage : Prop :=
  ∀ (s : State) (t : Tester) (p : List Byte) (rest : List RxEntry) (r : Record) (q : Sponsor),
    s.testerHead .continueClaim t p rest → s.admitted t = true →
    s.standing (word16At p 0) = .here r q → r.tester = t →
    let u := s.afterTesterHead t
    (q.ending = true ∨ r.state ≠ .held →
      exec .continuePassage s =
        .next (u.reportClaim r q r.state.code Reason.claimNotHeld).drive) ∧
    (q.ending = false → r.state = .held → q.credit = true →
      exec .continuePassage s =
        .next (u.reportClaim r q ClaimState.held.code Reason.already).drive) ∧
    (q.ending = false → r.state = .held → q.credit = false →
      exec .continuePassage s = .next
        ((u.updateSponsor r.id fun y => { y with credit := true }).reportClaim r q
          ClaimState.held.code Reason.ok).drive)

/-- RELEASE and RESUME passages (R122, R132, R102), where the first failing check of R132 gives the reason;
the decision to end a claim (R121), and the two checks that RENEW, RELEASE, RESUME and CONTINUE share
(R115). -/
def Obligations.ReleaseAndResume : Prop :=
  (∀ (s : State) (t : Tester) (p : List Byte) (rest : List RxEntry) (r : Record) (q : Sponsor),
    s.testerHead .release t p rest → s.admitted t = true → s.standing (word16At p 0) = .here r q →
    r.tester = t →
    let u := s.afterTesterHead t
    (q.ending = true → exec .releasePassage s =
      .next (u.reportClaim r q r.state.code Reason.already).drive) ∧
    (q.ending = false → exec .releasePassage s = .next (u.decideEnd r.id Reason.released).drive)) ∧
  (∀ (s : State) (id : ClaimId) (b : Byte) (r : Record) (q : Sponsor), s.standing id = .here r q →
    (q.ending = true → s.decideEnd id b = s) ∧
    (q.ending = false →
      s.decideEnd id b =
        (s.updateSponsor id fun y => { y with
          ending := true, leaseTimer := none
          window := if undecided r q then none else y.window }).offerProtocol .endClaim
            (claimReasonPayload id b))) ∧
  (∀ (s : State) (t : Tester) (p : List Byte) (rest : List RxEntry) (r : Record) (q : Sponsor),
    s.testerHead .resume t p rest → s.admitted t = true → s.standing (word16At p 0) = .here r q →
    r.tester = t →
    let u := s.afterTesterHead t
    (∀ x, u.resumeRefusal r q = some x →
      exec .resumePassage s = .next (u.reportClaim r q r.state.code x).drive) ∧
    (u.resumeRefusal r q = none →
      let w := u.offerProtocol .announce
        (announcePayload r.id .resume r.tester r.cls r.scope r.paced r.oneShot)
      (u.takesProtocol = true → exec .resumePassage s = .next w.drive) ∧
      (u.takesProtocol = false → exec .resumePassage s =
        .next (w.reportClaim r q ClaimState.suspended.code Reason.notReady).drive))) ∧
  (∀ (s : State) (r : Record) (q : Sponsor),
    s.resumeRefusal r q = none ↔
      q.ending = false ∧ r.state = .suspended ∧ s.announcePending r.id = false ∧
      q.decided = false ∧ s.grants r.tester r.cls = true ∧ s.membership.state = .member ∧
      s.fence.fenced = false ∧ s.conditionsMet r.cls = true) ∧
  (∀ (s : State) (r : Record) (q : Sponsor),
    s.resumeRefusal r q =
      if q.ending = true then some Reason.claimNotHeld
      else if r.state = .pending then some Reason.claimNotHeld
      else if r.state = .held ∨ r.state = .resuming then some Reason.already
      else if s.announcePending r.id = true then some Reason.already
      else if q.decided = true then some Reason.notReady
      else if s.grants r.tester r.cls = false then some Reason.capability
      else if s.membership.state ≠ .member then some Reason.notReady
      else if s.fence.fenced = true then some Reason.fenced
      else if s.conditionsMet r.cls = false then some Reason.condition
      else none) ∧
  (∀ (c : Instr) (k : FrameKind) (s : State) (t : Tester) (p : List Byte) (rest : List RxEntry),
     ((c = .renewPassage ∧ k = .renew) ∨ (c = .releasePassage ∧ k = .release) ∨
       (c = .resumePassage ∧ k = .resume) ∨ (c = .continuePassage ∧ k = .continueClaim)) →
     s.testerHead k t p rest →
     let u := s.afterTesterHead t
     (s.admitted t = false →
       exec c s = .next (u.offerResult k t 0x00#8 Reason.notAdmitted (word16At p 0)).drive) ∧
     (s.admitted t = true → (∀ r q, s.standing (word16At p 0) = .here r q → r.tester ≠ t) →
       exec c s = .next (u.offerResult k t 0x00#8 Reason.notFound (word16At p 0)).drive))

/-! ## Admissions -/

/-- An ADMIT at its passage: judged (R48, R49), its effect (R50, R52), and one ADMIT_ACK. -/
def Obligations.AdmitPassage : Prop :=
  (∀ (s : State) (t : Tester) (p : List Byte) (rest : List RxEntry),
    s.testerHead .admitTicket t p rest →
    let u := s.afterTesterHead t
    let x := u.judgeTicket t p
    let ack := admitAckPayload x (word32At p 1)
    (x = Reason.ok →
      exec .admitPassage s = .next
        (((u.setAdmission t ⟨some ⟨takeZero p 0 20, word32At p 1, word32At p 5, classSetAt p 14,
            domainSetAt p 16, ⟨s.guardTime, 60000 * (word16At p 18).toNat⟩,
            ⟨s.guardTime, 1000 * s.config.timing.testerQuiet⟩⟩, s.admissions[t].lastEnd⟩).post
              .admitted (some t) none none (flag8 (s.admitted t))).offerStatus .admitAck t ack).drive) ∧
    (x = Reason.already → exec .admitPassage s = .next (u.offerStatus .admitAck t ack).drive) ∧
    (x ≠ Reason.ok → x ≠ Reason.already →
      exec .admitPassage s = .next
        (((u.count Counter.admitRefused).post .admitRefused (some t) none none x).offerStatus
          .admitAck t ack).drive)) ∧
  (∀ (s : State) (t : Tester) (p : List Byte),
    (s.judgeTicket t p = Reason.ok ↔
      (byteAt p 0 = 1#8 ∧ 1 ≤ (word16At p 18).toNat ∧ (word16At p 18).toNat ≤ 1440) ∧
      ticketPasses s.config.checkKey (takeZero p 0 36) = true ∧
      word32At p 9 = s.config.vehicleId ∧ byteAt p 13 = testerAddress t ∧
      word32At p 1 ∉ s.config.withdrawn ∧ inSet s.config.ownDomain (domainSetAt p 16) = true ∧
      ∀ k, s.ticket t = some k → k.serial.toNat < (word32At p 1).toNat) ∧
    (ticketRefusal s.config t p = none → ∀ k, s.ticket t = some k →
      (word32At p 1).toNat ≤ k.serial.toNat →
      s.judgeTicket t p =
        if takeZero p 0 20 = k.body then Reason.already else Reason.staleTicket))

/-- An admission ends at a LEAVE and at the expiry of its validity or quiet timer (R54 to R60). The model's
choice: an expiry named before guard time has reached it takes place where no running timer ends sooner,
and guard time moves on to it (log entry 3). The model's reading: under an outstanding stop order the
order keeps the marking of R59, and the request's mark stays as it is by R161 (log entry 33). -/
def Obligations.AdmissionEnds : Prop :=
  (∀ (s : State) (t : Tester) (p : List Byte) (rest : List RxEntry), s.testerHead .leave t p rest →
    exec .leavePassage s = .next ((s.afterTesterHead t).endAdmission t .left).drive) ∧
  (∀ (s : State) (t : Tester) (k : Ticket), s.phase = .running → s.ticket t = some k →
    (s.soonest k.validity = true → exec (.validityTimerExpiry t) s =
      .next ((s.reachDue k.validity).endAdmission t .ticketExpired).drive) ∧
    (s.soonest k.quiet = true → exec (.quietTimerExpiry t) s =
      .next ((s.reachDue k.quiet).endAdmission t .quiet).drive)) ∧
  (∀ (s : State) (t : Tester) (x : EndCause), s.admitted t = false → s.endAdmission t x = s) ∧
  (∀ (s : State) (t : Tester) (x : EndCause), s.admitted t = true →
    let u := s.endAdmission t x
    u.admissions = s.admissions.set t.val ⟨none, x⟩ t.isLt ∧
    u.memory.lanes = s.memory.lanes.set t.val .free t.isLt ∧
    u.memory.replies = s.memory.replies.filter (fun a => a.tester != t) ∧
    u.delivery.queue = s.delivery.queue.filter (fun e => !(e.tester == t)) ∧
    (s.fence.stop = none → u.delivery.service = s.delivery.service.map
      (fun v => if v.tester = t then { v with orphaned := true } else v)) ∧
    (∀ o, s.fence.stop = some o → u.delivery.service = s.delivery.service ∧
      (o.tester = t → u.fence.stop = some { o with testerGone := true }) ∧
      (o.tester ≠ t → u.fence.stop = some o)) ∧
    (s.fence.stop = none → u.fence.stop = none) ∧
    u.hold.view.map Record.replicated = s.hold.view.map Record.replicated ∧
    (s.hold.ascending = true →
      ∀ r ∈ u.hold.view, ∀ q, r.sponsor = some q → r.tester = t → q.ending = true) ∧
    u.trail.entries = s.trail.entries)

/-! ## Requests -/

/-- A REQ_FIRST (R139, R140): the eleven checks together decide acceptance, and the first that fails gives
the reason; a refusal answers, counts and captures, and sets the lane; an accepted request begins its
assembly, and is complete at once when one segment carries it. That the capture of a REQ_FIRST cut short
holds its bytes filled with 0x00 is the model's reading (log entry 13). -/
def Obligations.ReqFirstPassage : Prop :=
  (∀ (s : State) (t : Tester) (p : List Byte) (rest : List RxEntry), s.testerHead .reqFirst t p rest →
    let u := (s.afterTesterHead t).endDiscarding t
    let last := lastSegment (word16At p 1).toNat
    (∀ r k, u.judgeRequest t p = .inl (r, k) →
      let w := ((u.offerResult .reqFirst t (byteAt p 0) r (word16At p 3)).countReason r).offerCapture
        ⟨t, byteAt p 0, k, r, (word16At p 1).toNat, takeZero p 5 (min 59 (word16At p 1).toNat)⟩
      (r ≠ Reason.notAdmitted → u.memory.lanes[t] = .free → 1 ≤ last →
        exec .reqFirstPassage s = .next (w.setLane t
          (.discarding (byteAt p 0) last ⟨s.guardTime, s.config.timing.segmentGap⟩)).drive) ∧
      (r = Reason.notAdmitted ∨ u.memory.lanes[t] ≠ .free ∨ last = 0 →
        exec .reqFirstPassage s = .next w.drive)) ∧
    (∀ e, u.judgeRequest t p = .inr e →
      let a : Assembly := ⟨byteAt p 0, (word16At p 1).toNat, word16At p 3, e.cls,
        s.config.deliveryLevel e.cls, e.disposition, takeZero p 5 (min 59 (word16At p 1).toNat), 1,
        last, ⟨s.guardTime, s.config.timing.segmentGap⟩⟩
      let w := (u.takeBlocks (blocksFor (word16At p 1).toNat)).setLane t (.assembling a)
      (1 ≤ last → exec .reqFirstPassage s = .next w.drive) ∧
      (last = 0 → exec .reqFirstPassage s = .next (w.completeRequest t a .reqFirst).drive))) ∧
  (∀ (s : State) (t : Tester) (p : List Byte) (e : Pattern),
    s.judgeRequest t p = .inr e ↔
      s.admitted t = true ∧ s.tagInUse t (byteAt p 0) = false ∧ s.memory.lanes[t] = .free ∧
      1 ≤ (word16At p 1).toNat ∧ (word16At p 1).toNat ≤ 4095 ∧
      winningPattern s.config.patterns (takeZero p 5 (min 16 (word16At p 1).toNat))
        (word16At p 1).toNat = some e ∧
      s.grants t e.cls = true ∧
      (e.cls.effecting = true → word16At p 3 ≠ noClaim ∧ ∃ r q,
        s.standing (word16At p 3) = .here r q ∧ r.tester = t ∧ r.cls = e.cls ∧
        (r.state = .pending ∨ r.state = .held) ∧ q.ending = false) ∧
      (e.cls.effecting = false → word16At p 3 = noClaim ∨ ∃ r q,
        s.standing (word16At p 3) = .here r q ∧ r.tester = t ∧ r.state = .held ∧
        q.ending = false) ∧
      (e.cls.effecting = true → s.fence.fenced = false) ∧
      s.delivery.queue.countP (fun x => x.tester == t) < 4 ∧
      s.delivery.queue.length + s.placesHeld < 16 ∧
      blocksFor (word16At p 1).toNat + 8 ≤ s.memory.free) ∧
  (∀ (s : State) (t : Tester) (p : List Byte),
    let n := (word16At p 1).toNat
    let id := word16At p 3
    s.judgeRequest t p =
      if s.admitted t = false then .inl (Reason.notAdmitted, none)
      else if s.tagInUse t (byteAt p 0) = true then .inl (Reason.duplicateTag, none)
      else if s.memory.lanes[t] ≠ .free then .inl (Reason.busyLane, none)
      else if n = 0 ∨ 4095 < n then .inl (Reason.tooLong, none)
      else match winningPattern s.config.patterns (takeZero p 5 (min 16 n)) n with
        | none => .inl (Reason.unclassified, none)
        | some e =>
          if s.grants t e.cls = false then .inl (Reason.capability, some e.cls)
          else if e.cls.effecting = true ∧ id = noClaim then .inl (Reason.noClaim, some e.cls)
          else if e.cls.effecting = true ∧ s.effectingClaimOk t e.cls id = false then
            .inl (Reason.claimNotHeld, some e.cls)
          else if e.cls.effecting = false ∧ id ≠ noClaim ∧ s.readClaimOk t id = false then
            .inl (Reason.claimNotHeld, some e.cls)
          else if e.cls.effecting = true ∧ s.fence.fenced = true then .inl (Reason.fenced, some e.cls)
          else if 4 ≤ s.delivery.queue.countP (fun x => x.tester == t) ∨
              16 ≤ s.delivery.queue.length + s.placesHeld then .inl (Reason.queueFull, some e.cls)
          else if s.memory.free < blocksFor n + 8 then .inl (Reason.memoryFull, some e.cls)
          else .inr e) ∧
  (∀ (s : State) (t : Tester) (k : Sys2Proof.Class) (id : ClaimId),
    (s.effectingClaimOk t k id = true ↔ ∃ r q, s.standing id = .here r q ∧ r.tester = t ∧
      r.cls = k ∧ (r.state = .pending ∨ r.state = .held) ∧ q.ending = false) ∧
    (s.readClaimOk t id = true ↔ ∃ r q, s.standing id = .here r q ∧ r.tester = t ∧
      r.state = .held ∧ q.ending = false))

/-- Completion (R69, R70, R143): a standing reply, or a place at the tail of the delivery queue, or a
refusal. -/
def Obligations.Completion : Prop :=
  ∀ (s : State) (t : Tester) (a : Assembly) (k : FrameKind),
    let refused (b : Byte) := (((s.freeBlocks (blocksFor a.total)).setLane t .free).requestResult k t
      a.tag b a.claim).offerCapture ⟨t, a.tag, some a.cls, b, a.total, a.data⟩
    (∀ j content, a.disposition = .localReply j → s.slots[j] = .loaded content →
      (blocksFor content.length ≤ s.memory.free + blocksFor a.total → s.memory.replies.length < 16 →
        s.completeRequest t a k = ({ s with memory := { s.memory with
          free := s.memory.free + blocksFor a.total - blocksFor content.length
          lanes := s.memory.lanes.set t.val .free t.isLt
          replies := s.memory.replies ++ [⟨t, a.tag, .standing, a.cls, content, 0⟩] } } : State).count
            Counter.answered) ∧
      (s.memory.free + blocksFor a.total < blocksFor content.length ∨ 16 ≤ s.memory.replies.length →
        s.completeRequest t a k = refused Reason.memoryFull)) ∧
    ((a.disposition = .deliver ∨ ∃ j, a.disposition = .localReply j ∧ s.slots[j] = .empty) →
      (∀ b, s.completionRefusal t a = some b → s.completeRequest t a k = refused b) ∧
      (s.completionRefusal t a = none →
        s.completeRequest t a k = { s with
          memory := { s.memory with lanes := s.memory.lanes.set t.val .free t.isLt }
          delivery := { s.delivery with
            queue := s.delivery.queue ++ [⟨t, a.tag, a.cls, a.level, a.claim, a.data,
              s.delivery.lastStamp + 1, ⟨s.guardTime, 1000 * s.config.timing.queueWait⟩⟩]
            lastStamp := s.delivery.lastStamp + 1 } }))

/-- A REQ_NEXT by its lane (R141). -/
def Obligations.ReqNextPassage : Prop :=
  ∀ (s : State) (t : Tester) (p : List Byte) (rest : List RxEntry), s.testerHead .reqNext t p rest →
    let u := s.afterTesterHead t
    let gap : Timer := ⟨s.guardTime, s.config.timing.segmentGap⟩
    (s.memory.lanes[t] = .free → exec .reqNextPassage s = .next u.drive) ∧
    (∀ a, s.memory.lanes[t] = .assembling a →
      (a.tag ≠ byteAt p 0 → exec .reqNextPassage s = .next u.drive) ∧
      (a.tag = byteAt p 0 → (byteAt p 1).toNat ≠ a.nextIndex →
        exec .reqNextPassage s = .next
          ((((u.freeBlocks (blocksFor a.total)).setLane t (.discarding a.tag a.lastIndex gap)).requestResult
            .reqNext t a.tag Reason.sequence a.claim).offerCapture
              ⟨t, a.tag, some a.cls, Reason.sequence, a.total, a.data⟩).drive) ∧
      (a.tag = byteAt p 0 → (byteAt p 1).toNat = a.nextIndex →
        let b : Assembly := { a with
          data := a.data ++ takeZero p 2 (min 62 (a.total - a.data.length))
          nextIndex := a.nextIndex + 1
          gap := gap }
        (b.data.length < a.total →
          exec .reqNextPassage s = .next (u.setLane t (.assembling b)).drive) ∧
        (a.total ≤ b.data.length →
          exec .reqNextPassage s =
            .next ((u.setLane t (.assembling b)).completeRequest t b .reqNext).drive))) ∧
    (∀ tag last tm, s.memory.lanes[t] = .discarding tag last tm →
      (tag ≠ byteAt p 0 → exec .reqNextPassage s = .next u.drive) ∧
      (tag = byteAt p 0 → (byteAt p 1).toNat = last →
        exec .reqNextPassage s = .next (u.setLane t .free).drive) ∧
      (tag = byteAt p 0 → (byteAt p 1).toNat ≠ last →
        exec .reqNextPassage s = .next (u.setLane t (.discarding tag last gap)).drive))

/-- ABORT_REQ by the first case that applies (R158), and the expiries of a gap timer (R142) and of
QUEUE_WAIT (R145). That an expiry named before guard time has reached it takes place where no running
timer ends sooner, and moves guard time on to it, is the model's choice (log entry 3); that an ABORT_REQ
under a stop order goes by the request's mark as it stands, the model's reading (log entry 33). -/
def Obligations.AbortAndWaits : Prop :=
  (∀ (s : State) (t : Tester) (p : List Byte) (rest : List RxEntry), s.testerHead .abortReq t p rest →
    let u := s.afterTesterHead t
    let tag := byteAt p 0
    let told (b : Byte) (i : ClaimId) := (u.offerResult .abortReq t tag b i).drive
    let noLane := ∀ a, s.memory.lanes[t] = .assembling a → a.tag ≠ tag
    (s.admitted t = false →
      exec .abortReqPassage s = .next (told Reason.notAdmitted noClaim)) ∧
    (s.admitted t = true →
      (∀ a, s.memory.lanes[t] = .assembling a → a.tag = tag →
        exec .abortReqPassage s = .next
          (((u.freeBlocks (blocksFor a.total)).setLane t (.discarding tag a.lastIndex
            ⟨s.guardTime, s.config.timing.segmentGap⟩)).requestResult .abortReq t tag Reason.aborted
              a.claim).drive) ∧
      (noLane → ∀ e, s.queued? t tag = some e →
        exec .abortReqPassage s = .next
          ((u.removeEntries (QueueEntry.isFor t tag) none).requestResult .abortReq t tag
            Reason.aborted e.claim).drive) ∧
      (noLane → s.queued? t tag = none →
        (∀ v, s.delivery.service = some v → v.tester = t → v.tag = tag → v.orphaned = false →
          (v.cls.effecting = true → s.fence.stop = none →
            exec .abortReqPassage s = .next (u.askStop .abort).drive) ∧
          (v.cls.effecting = true → s.fence.stop ≠ none →
            exec .abortReqPassage s = .next (told Reason.already v.claim)) ∧
          (v.cls.effecting = false →
            exec .abortReqPassage s = .next (told Reason.notAbortable v.claim))) ∧
        ((∀ v, s.delivery.service = some v → ¬(v.tester = t ∧ v.tag = tag ∧ v.orphaned = false)) →
          exec .abortReqPassage s = .next (told Reason.notFound noClaim))))) ∧
  (∀ (s : State) (t : Tester), s.phase = .running →
    (∀ a, s.memory.lanes[t] = .assembling a → s.soonest a.gap = true →
      exec (.gapTimerExpiry t) s = .next
        (((((s.reachDue a.gap).freeBlocks (blocksFor a.total)).setLane t .free).requestResult .reqFirst
          t a.tag Reason.assemblyTimeout a.claim).offerCapture
            ⟨t, a.tag, some a.cls, Reason.assemblyTimeout, a.total, a.data⟩).drive) ∧
    (∀ tag last tm, s.memory.lanes[t] = .discarding tag last tm → s.soonest tm = true →
      exec (.gapTimerExpiry t) s = .next ((s.reachDue tm).setLane t .free).drive) ∧
    (∀ tag e, s.queued? t tag = some e → s.soonest e.wait = true →
      exec (.queueWaitExpiry t tag) s = .next
        ((s.reachDue e.wait).removeEntries (QueueEntry.isFor t tag)
          (some Reason.queueTimeout)).drive)) ∧
  (∀ (s : State) (f : QueueEntry → Bool) (x : Option Byte),
    (s.removeEntries f x).delivery.queue = s.delivery.queue.filter (fun e => !f e) ∧
    (s.removeEntries f x).memory.free = s.memory.free +
      ((s.delivery.queue.filter f).map fun e => blocksFor e.data.length).sum ∧
    (s.removeEntries f x).delivery.service = s.delivery.service ∧
    (s.removeEntries f x).trail.entries = s.trail.entries ∧
    (x = none → (s.removeEntries f x).bus = s.bus ∧ (s.removeEntries f x).trail = s.trail))

/-! ## Audit queries -/

/-- The answer of a query row (R190, R194), the first failing check of R193 giving the reason, and the
lengths that R194 gives for the answers. -/
def Obligations.Queries : Prop :=
  (∀ (s : State) (t : Tester) (p : List Byte) (rest : List RxEntry) (c : Instr) (x : Selector)
      (answer : State → List Byte) (effect : State → State),
    s.testerHead .query t p rest →
    (c = .queryStatus ∧ x = .status ∧ answer = State.statusAnswer ∧ effect = id ∨
     c = .queryIncidents ∧ x = .incidents ∧ answer = State.incidentsAnswer ∧ effect = id ∨
     c = .queryView ∧ x = .view ∧ answer = State.viewAnswer ∧ effect = id ∨
     c = .queryRoster ∧ x = .roster ∧ answer = State.rosterAnswer ∧ effect = id ∨
     c = .queryTrail ∧ x = .trail ∧
       answer = (fun u => u.trailAnswer (word16At p 2).toNat (byteAt p 4).toNat) ∧
       effect = State.useFree ∨
     c = .queryThaw ∧ x = .thaw ∧ answer = State.thawAnswer ∧ effect = (fun u => u.thawTrail t) ∨
     c = .queryCounters ∧ x = .counters ∧ answer = State.countersAnswer ∧
       effect = State.clearCounters ∨
     c = .queryCapture ∧ x = .capture ∧ answer = State.captureAnswer ∧
       effect = State.clearCapture) →
    let u := s.afterTesterHead t
    (∀ r, u.queryRefusal t p = some r → (Selector.ofCode (byteAt p 0) = some x ∨
        Selector.ofCode (byteAt p 0) = none) →
      exec c s = .next (u.offerResult .query t (byteAt p 1) r noClaim).drive) ∧
    (u.queryRefusal t p = none → Selector.ofCode (byteAt p 0) = some x →
      (u.memory.replies.length < 16 → blocksFor (answer u).length ≤ u.memory.free →
        exec c s = .next (effect { u with memory := { u.memory with
          free := u.memory.free - blocksFor (answer u).length
          replies := u.memory.replies ++
            [⟨t, byteAt p 1, .audit, .audit, answer u, 0⟩] } }).drive) ∧
      (16 ≤ u.memory.replies.length ∨ u.memory.free < blocksFor (answer u).length →
        exec c s =
          .next (u.offerResult .query t (byteAt p 1) Reason.memoryFull noClaim).drive))) ∧
  (∀ (s : State) (t : Tester) (p : List Byte),
    s.queryRefusal t p = none ↔
      s.grants t .audit = true ∧ (Selector.ofCode (byteAt p 0)).isSome = true ∧
      (Selector.ofCode (byteAt p 0) = some .trail →
        (word16At p 2).toNat ≤ 511 ∧ (byteAt p 4).toNat ≤ 32)) ∧
  (∀ (s : State) (t : Tester) (p : List Byte),
    s.queryRefusal t p =
      if s.admitted t = false then some Reason.notAdmitted
      else if s.grants t .audit = false then some Reason.capability
      else if Selector.ofCode (byteAt p 0) = none then some Reason.notFound
      else if Selector.ofCode (byteAt p 0) = some .trail ∧ 511 < (word16At p 2).toNat then
        some Reason.notFound
      else if Selector.ofCode (byteAt p 0) = some .trail ∧ 32 < (byteAt p 4).toNat then
        some Reason.tooLong
      else none) ∧
  (∀ (s : State) (t : Tester),
    s.clearCounters = { s with trail := { s.trail with counters := Vector.replicate 25 0 } } ∧
    s.clearCapture = { s with trail := { s.trail with capture := none } } ∧
    (s.trail.mode = .recording → s.thawTrail t = s) ∧
    (s.trail.mode ≠ .recording →
      (s.thawTrail t).trail.mode = .recording ∧ (s.thawTrail t).trail.skipped = 0 ∧
      (s.thawTrail t).trail.entries = s.trail.entries.set s.trail.index.val
        (some ⟨s.guardTime, .thawed, some t, some s.trail.skipped, none, 0x00#8⟩)
        s.trail.index.isLt)) ∧
  (∀ (s : State) (i n : Nat),
     s.statusAnswer.length = 206 ∧ s.incidentsAnswer.length = 28 ∧
     s.viewAnswer.length = 1 + 15 * s.hold.view.length ∧
     s.rosterAnswer.length = 2 + 11 * s.config.fitted.length ∧
     (s.trailAnswer i n).length = 7 + 10 * n ∧ s.thawAnswer.length = 3 ∧
     s.countersAnswer.length = 50 ∧
     s.captureAnswer.length = 56)

/-! ## Timer expiries of requests and claims -/

/-- SERVICE_LIMIT (R155) and STOP_LIMIT (R165); the window (R106), the consent hold (R112) and the lease
(R119); and the moment of an expiry (R1): the row of a running timer takes effect where no running timer
ends sooner, guard time moving on to its end, and the row of another changes nothing (the model's choice,
log entries 1 and 3). -/
def Obligations.TimerExpiries : Prop :=
  (∀ (s : State) (v : Service) (tm : Timer), s.phase = .running → s.delivery.service = some v →
    v.limit = some tm → s.soonest tm = true →
    let u := (s.reachDue tm).updateService fun y => { y with limit := none }
    let told := if v.orphaned then u else (u.requestResult .reqFirst v.tester v.tag Reason.ecuTimeout
      v.claim).offerCapture ⟨v.tester, v.tag, some v.cls, Reason.ecuTimeout, v.data.length, v.data⟩
    (v.cls.effecting = true →
      exec .serviceLimitExpiry s = .next (told.askStop .serviceTimeout).drive) ∧
    (v.cls.effecting = false →
      exec .serviceLimitExpiry s = .next ({ told with
        delivery := { told.delivery with service := none }
        memory := { told.memory with free := told.memory.free + v.blocks } } : State).drive)) ∧
  (∀ (s : State) (o : StopOrder), s.phase = .running → s.fence.stop = some o →
    s.soonest o.limit = true →
    let u := s.reachDue o.limit
    exec .stopLimitExpiry s = .next
      ((u.updateIncident fun i => { i with outcome := some .timedOut }).takeFenceCause .stopFailed
        ⟨.fence .stopFailed, some o.claim, some o.tester, some o.tag, some o.cls, u.guardTime,
          .opened, none⟩).drive) ∧
  (∀ (s : State) (id : ClaimId) (r : Record) (q : Sponsor) (tm : Timer), s.phase = .running →
    s.standing id = .here r q → s.soonest tm = true →
    (q.window = some tm →
      let u := (s.reachDue tm).updateSponsor id fun y => { y with window := none }
      (undecided r q = true →
        exec (.windowTimerExpiry id) s = .next (u.decideClaim id .lapsed Reason.ok).drive) ∧
      (undecided r q = false → exec (.windowTimerExpiry id) s = .next u.drive)) ∧
    (q.leaseTimer = some tm →
      (q.ending = false →
        exec (.leaseTimerExpiry id) s =
          .next (((s.reachDue tm).updateSponsor id fun y => { y with leaseTimer := none }).decideEnd
            id Reason.expired).drive) ∧
      (q.ending = true →
        exec (.leaseTimerExpiry id) s =
          .next ((s.reachDue tm).updateSponsor id fun y => { y with leaseTimer := none }).drive))) ∧
  (∀ (s : State) (id : ClaimId) (r : Record) (tm : Timer), s.phase = .running →
    s.record? id = some r → r.holdTimer = some tm → s.soonest tm = true →
    let u := (s.reachDue tm).updateRecord id fun y => { y with holdTimer := none }
    (((r.state = .pending ∨ r.state = .resuming) ∧ r.consented = true ∧ r.cancelSent = false) →
      let w := u.offerProtocol .cancel (claimReasonPayload id Reason.holdExpired)
      (u.takesProtocol = true → exec (.holdTimerExpiry id) s =
        .next (w.updateRecord id fun y => { y with cancelSent := true }).drive) ∧
      (u.takesProtocol = false → exec (.holdTimerExpiry id) s = .next w.drive)) ∧
    (¬((r.state = .pending ∨ r.state = .resuming) ∧ r.consented = true ∧ r.cancelSent = false) →
      exec (.holdTimerExpiry id) s = .next u.drive)) ∧
  (∀ (s : State) (tm : Timer),
    ((s.guardTime - tm.started).toNat < tm.length →
      s.reachDue tm = { s with guardTime := tm.started + BitVec.ofNat 32 tm.length }) ∧
    (tm.length ≤ (s.guardTime - tm.started).toNat → s.reachDue tm = s) ∧
    (s.soonest tm = true ↔ ∀ x ∈ s.runningTimers,
      tm.length - (s.guardTime - tm.started).toNat ≤
        x.2.length - (s.guardTime - x.2.started).toNat)) ∧
  (∀ (s : State) (c : Instr), timerExpiry c = true →
    (∀ tm, (c, tm) ∈ s.runningTimers → s.soonest tm = false) → exec c s = .next s.drive)

/-! ## The ECU link -/

/-- Every link command is answered NOT_READY while STARTING or UNCONFIGURED (R177), a wrong length or
a message with a framing fault ILLEGAL (R24, R178), and a discarded transaction changes nothing (R24). Which
command the bytes of a transaction are, and how a response goes out on LSDO (R24). The model's choices: a
wrong form is ILLEGAL whatever the slot holds (log entry 11); a POST of an unknown kind is a framing fault
(log entry 29); how many bytes of 0xFF precede the response is open (log entry 35). -/
def Obligations.LinkAnswers : Prop :=
  (∀ (c : Instr) (s : State),
    (linkRow c = true ∨ ∃ m, c = .unknownCommandCode m ∧ commandOfMessage m = c) →
    (s.phase = .starting ∨ s.phase = .unconfigured →
      exec c s = .next ({ s with link := { s.link with response := some ⟨.notReady, []⟩ } } : State).drive) ∧
    ((∃ k, s.phase = .held k) → exec c s = .next s.drive)) ∧
  (∀ (c : Instr) (s : State), s.phase = .running →
    ((∃ m, c = .unknownCommandCode m ∧ commandOfMessage m = c) ∨
      (∃ d, (c = .take d ∨ c = .notice d ∨ c = .status d) ∧ d ≠ []) ∨
      (∃ d, c = .read d ∧ d.length ≠ 4) ∨
      (∃ d, (c = .postInterim d ∨ c = .postPart d ∨ c = .postFinal d) ∧ 256 ≤ d.length) ∨
      (∃ d, (c = .stopDone d ∨ c = .slotClear d) ∧ d.length ≠ 1) ∨
      (∃ d, c = .conditions d ∧ d.length ≠ 5) ∨
      (∃ d, c = .slotLoad d ∧ (d.length < 5 ∨ 256 < d.length))) →
    exec c s = .next ({ s with link := { s.link with response := some ⟨.illegal, []⟩ } } : State).drive) ∧
  (∀ s : State, exec .transactionDiscarded s = .next s.drive) ∧
  (∀ (code : Byte) (data more : List Byte), data.length < 65536 →
    commandOfTransaction (linkFrame code data ++ more) =
      (linkCommand code.toNat data).getD (.unknownCommandCode (linkFrame code data))) ∧
  (∀ bs : List Byte, bs.length < 3 ∨ bs.length < 4 + (word16At bs 1).toNat →
    commandOfTransaction bs = .transactionDiscarded) ∧
  (∀ (b : Byte) (d : List Byte),
    linkFrame b d = (b :: nat16 d.length ++ d) ++ [crc8 (b :: nat16 d.length ++ d)]) ∧
  (∀ (s : State) (n : Nat),
    ((∃ k, s.phase = .held k) → s.lsdo n = none) ∧
    (∀ r, (∀ k, s.phase ≠ .held k) → s.link.response = some r →
      s.lsdo n = some (List.replicate n 0xFF#8 ++ linkFrame r.status.code r.data) ∧
      (List.replicate n 0xFF#8 ++ linkFrame r.status.code r.data).find? (fun b => b != 0xFF#8) =
        some r.status.code)) ∧
  [LinkStatus.ok, .empty, .blocked, .wait, .stale, .illegal, .notReady].map LinkStatus.code =
    [0x00#8, 0x01#8, 0x02#8, 0x03#8, 0x04#8, 0x05#8, 0x06#8]

/-- TAKE (R148, R149) and READ (R150), whose count is checked before the slot: the model's reading (log
entry 11). An effecting request is handed over only under a HELD claim
homed here that is not ENDING, with the domain OPEN (R146). -/
def Obligations.TakeAndRead : Prop :=
  (∀ s : State, s.phase = .running →
    (s.fence.stop ≠ none ∨ s.delivery.service ≠ none →
      exec (.take []) s = .next (s.respond .blocked []).drive) ∧
    (s.fence.stop = none → s.delivery.service = none → s.arbiter = none →
      exec (.take []) s = .next (s.respond .empty []).drive) ∧
    (∀ e, s.fence.stop = none → s.delivery.service = none → s.arbiter = some e →
      let w : State := { s with
        delivery := { s.delivery with
          queue := s.delivery.queue.erase e
          service := some ⟨e.tester, e.tag, e.cls, e.claim, e.data,
            some ⟨s.guardTime, s.config.timing.serviceLimit⟩, 0, [], false⟩ } }
      let u := w.count Counter.delivered
      let v := if e.claim = noClaim then u else u.updateRecord e.claim fun r => r.onSponsor fun q =>
        { q with
          leaseTimer := some ⟨s.guardTime, 1000 * q.lease⟩
          credit := if r.paced then false else q.credit }
      let data := [testerAddress e.tester, e.tag, e.cls.code] ++ bytes16 e.claim ++
        nat16 e.data.length ++ e.data.take 240
      (e.cls.effecting = false → exec (.take []) s = .next (v.respond .ok data).drive) ∧
      (e.cls.effecting = true →
        exec (.take []) s = .next
          (((({ v with fence := { v.fence with marker := true } } : State).setOperation e.claim
            .active).post .delivered (some e.tester) (some e.claim) (some e.cls) 0x00#8).respond .ok
              data).drive) ∧
      (e.cls.effecting = true → s.effectingNamed = true →
        s.fence.fenced = false ∧ ∃ r q, s.standing e.claim = .here r q ∧ r.state = .held ∧
          q.ending = false ∧ (r.paced = true → q.credit = true)))) ∧
  (∀ (s : State) (d : List Byte), s.phase = .running → d.length = 4 →
    let n := (word16At d 2).toNat
    (n = 0 ∨ 256 < n → exec (.read d) s = .next (s.respond .illegal []).drive) ∧
    (1 ≤ n → n ≤ 256 →
      (s.delivery.service = none → exec (.read d) s = .next (s.respond .empty []).drive) ∧
      (∀ v, s.delivery.service = some v → exec (.read d) s =
        .next (s.respond .ok ((v.data.drop (word16At d 0).toNat).take n)).drive)))

/-- POST in the order of R179 (R59, R151 to R154, R163), and what a FINAL completes (R153). -/
def Obligations.Posts : Prop :=
  ∀ (s : State) (b : List Byte), s.phase = .running → b.length ≤ 255 →
    (s.delivery.service = none → ∀ c, c = .postInterim b ∨ c = .postPart b ∨ c = .postFinal b →
      exec c s = .next (s.respond .stale []).drive) ∧
    (∀ v, s.delivery.service = some v →
      let need := blocksFor (v.staged.length + b.length) - blocksFor v.staged.length
      (∀ o, s.fence.stop = some o →
        exec (.postInterim b) s = .next (s.respond .ok []).drive ∧
        exec (.postPart b) s = .next (s.respond .ok []).drive ∧
        exec (.postFinal b) s = .next ((s.settleStop o v .answered).respond .ok []).drive) ∧
      (s.fence.stop = none →
        (s.config.timing.extensionsMax ≤ v.interims →
          exec (.postInterim b) s = .next (s.respond .illegal []).drive) ∧
        (v.interims < s.config.timing.extensionsMax →
          let u : State := { s with delivery := { s.delivery with service := some { v with
            interims := v.interims + 1
            limit := some ⟨s.guardTime, s.config.timing.serviceLimit⟩ } } }
          (v.orphaned = true → exec (.postInterim b) s = .next (u.respond .ok []).drive) ∧
          (v.orphaned = false → exec (.postInterim b) s = .next
            ((u.offerStatus .ansWait v.tester [v.tag, nat8 (v.interims + 1)]).respond .ok []).drive)) ∧
        (∀ c, c = .postPart b ∨ c = .postFinal b →
          (4095 < v.staged.length + b.length →
            exec c s = .next (s.respond .illegal []).drive) ∧
          (v.staged.length + b.length ≤ 4095 → s.memory.free < need →
            exec c s = .next (s.respond .wait []).drive)) ∧
        (v.staged.length + b.length ≤ 4095 → need ≤ s.memory.free →
          exec (.postPart b) s = .next (({ s with
            memory := { s.memory with free := s.memory.free - need }
            delivery := { s.delivery with
              service := some { v with staged := v.staged ++ b } } } : State).respond .ok []).drive ∧
          (v.orphaned = false → 16 ≤ s.memory.replies.length →
            exec (.postFinal b) s = .next (s.respond .wait []).drive) ∧
          (v.orphaned = true →
            exec (.postFinal b) s =
              .next (((s.leaveSlot v).operationSeen v).respond .ok []).drive) ∧
          (v.orphaned = false → s.memory.replies.length < 16 →
            let u := ((({ s with
              memory := { s.memory with
                free := s.memory.free - need + blocksFor v.data.length
                replies := s.memory.replies ++
                  [⟨v.tester, v.tag, .ecu, v.cls, v.staged ++ b, 0⟩] }
              delivery := { s.delivery with service := none } } : State)).count Counter.answered)
            (v.cls.effecting = false →
              exec (.postFinal b) s = .next (u.respond .ok []).drive) ∧
            (v.cls.effecting = true →
              exec (.postFinal b) s = .next
                (((({ u with fence := { u.fence with marker := false } } : State).setOperation
                  v.claim .idle).judgeOneShot v).respond .ok []).drive)))))

/-- STOP_DONE settles the outstanding stop of its tag, and is STALE otherwise (R162). -/
def Obligations.StopDone : Prop :=
  ∀ (s : State) (tag : Byte), s.phase = .running →
    (∀ o v, s.fence.stop = some o → s.delivery.service = some v → o.tag = tag →
      exec (.stopDone [tag]) s =
        .next ((s.settleStop o v .acknowledged).respond .ok []).drive) ∧
    (∀ o, s.fence.stop = some o → o.tag ≠ tag →
      exec (.stopDone [tag]) s = .next (s.respond .stale []).drive) ∧
    (s.fence.stop = none → exec (.stopDone [tag]) s = .next (s.respond .stale []).drive)

/-- CONDITIONS replaces the set (R180), and a BREAK is offered for each record this guard may break
whose class has a requirement not met (R128). -/
def Obligations.ConditionsCommand : Prop :=
  (∀ (s : State) (a b c d e : Byte), s.phase = .running →
    let u : State := { s with link := { s.link with
      conditions := ⟨triOf a, triOf b, triOf c, triOf d, triOf e⟩ } }
    exec (.conditions [a, b, c, d, e]) s = .next (((u.hold.view.filter fun r =>
      r.breakable && !u.conditionsMet r.cls).foldl (fun s r => s.offerBreak r) u).respond .ok []).drive) ∧
  (∀ r : Record, r.breakable = true ↔
    (r.state = .held ∨ ((r.state = .pending ∨ r.state = .resuming) ∧ r.consented = true)) ∧
      r.breakSent = false ∧ ∀ q, r.sponsor = some q → q.ending = false) ∧
  (∀ (s : State) (r : Record),
    (s.takesProtocol = true → s.offerBreak r =
      (s.joinQueue (guardFrame s.config.ownDomain .breakClaim (bytes16 r.id ++ [Reason.condition])) 0
        ).updateRecord r.id fun y => { y with breakSent := true }) ∧
    (s.takesProtocol = false → s.offerBreak r =
      s.offerProtocol .breakClaim (bytes16 r.id ++ [Reason.condition]))) ∧
  (∀ b : Byte, triOf b = if b = 1#8 then .true else if b = 0#8 then .false else .unknown)

/-- NOTICE hands out the oldest notice with the flags, and clears the lost mark; on an empty queue it is
EMPTY (R183). That bits 2 to 7 of the flags are 0 is the model's choice (log entry 34). -/
def Obligations.NoticeCommand : Prop :=
  ∀ s : State, s.phase = .running →
    (s.link.notices = [] → exec (.notice []) s = .next ({ s with
      link := { s.link with response := some ⟨.empty, []⟩ } } : State).drive) ∧
    (∀ n others, s.link.notices = n :: others → exec (.notice []) s = .next ({ s with
      link := { s.link with
        notices := others, lost := false
        response := some ⟨.ok,
          ((if s.link.lost then 0x01#8 else 0x00#8) |||
            (if others = [] then 0x00#8 else 0x02#8)) ::
          ([n.kind.code] ++ bytes32 n.time ++ [testerCode n.tester, tagCode n.tag] ++
            bytes16 n.claim ++ [classCode n.cls, n.reason])⟩ } } : State).drive)

/-- SLOT_LOAD writes a slot by the table of R184, and SLOT_CLEAR empties one (R185). -/
def Obligations.SlotCommands : Prop :=
  ∀ (s : State) (k : Byte) (n o : BitVec 16) (b : List Byte), s.phase = .running → b.length ≤ 251 →
    let load := exec (.slotLoad (k :: bytes16 n ++ bytes16 o ++ b)) s
    let illegal : State := { s with link := { s.link with response := some ⟨.illegal, []⟩ } }
    let answered (x : Fin 4) (y : Slot) : State := { s with
      slots := s.slots.set x.val y x.isLt
      link := { s.link with response := some ⟨.ok, []⟩ } }
    (3 < k.toNat ∨ 256 < n.toNat ∨ n.toNat < o.toNat + b.length → load = .next illegal.drive) ∧
    (∀ x : Fin 4, k.toNat = x.val → n.toNat ≤ 256 → o.toNat + b.length ≤ n.toNat →
      (s.slots[x] = .empty → load = .next (answered x (.loaded
        (List.replicate o.toNat 0x00#8 ++ b ++
          List.replicate (n.toNat - o.toNat - b.length) 0x00#8))).drive) ∧
      (∀ content, s.slots[x] = .loaded content → content.length ≠ n.toNat →
        load = .next illegal.drive) ∧
      (∀ content, s.slots[x] = .loaded content → content.length = n.toNat →
        load = .next (answered x (.loaded
          (content.take o.toNat ++ b ++ content.drop (o.toNat + b.length)))).drive)) ∧
    (3 < k.toNat → exec (.slotClear [k]) s = .next illegal.drive) ∧
    (∀ x : Fin 4, k.toNat = x.val →
      exec (.slotClear [k]) s = .next (answered x .empty).drive)

/-- STATUS is answered OK with the guard's state as it stands, and changes nothing else (R186). -/
def Obligations.StatusCommand : Prop :=
  ∀ s : State, s.phase = .running →
    exec (.status []) s = .next ({ s with link := { s.link with response := some ⟨.ok,
      [match s.membership.state with
        | .offline => 0x00#8
        | .joining => 0x01#8
        | .member => 0x02#8
        | .resync => 0x03#8,
       if s.fence.fenced then 0x01#8 else 0x00#8,
       s.fence.causes.zeroExtend 8,
       nat8 s.delivery.queue.length,
       nat8 s.memory.free,
       if s.fence.stop = none then 0x00#8 else 0x01#8,
       nat8 s.link.notices.length,
       nat8 s.config.ownDomain.val]⟩ } } : State).drive
end

