-- ==== Sys2Proof/Laws/State.lean ====
section
/-!
SUPPORT. One lemma for each field and each plain update of the state, true by definition.
-/

namespace Sys2Proof.Machine.State

section

variable (s : State) (f : Pins → Pins)

@[simp] theorem onPins_pending : (s.onPins f).pending = s.pending := rfl
@[simp] theorem onPins_guardTime : (s.onPins f).guardTime = s.guardTime := rfl
@[simp] theorem onPins_phase : (s.onPins f).phase = s.phase := rfl
@[simp] theorem onPins_startKind : (s.onPins f).startKind = s.startKind := rfl
@[simp] theorem onPins_pins : (s.onPins f).pins = f s.pins := rfl
@[simp] theorem onPins_loader : (s.onPins f).loader = s.loader := rfl
@[simp] theorem onPins_config : (s.onPins f).config = s.config := rfl
@[simp] theorem onPins_bus : (s.onPins f).bus = s.bus := rfl
@[simp] theorem onPins_membership : (s.onPins f).membership = s.membership := rfl
@[simp] theorem onPins_admissions : (s.onPins f).admissions = s.admissions := rfl
@[simp] theorem onPins_slots : (s.onPins f).slots = s.slots := rfl
@[simp] theorem onPins_hold : (s.onPins f).hold = s.hold := rfl
@[simp] theorem onPins_memory : (s.onPins f).memory = s.memory := rfl
@[simp] theorem onPins_delivery : (s.onPins f).delivery = s.delivery := rfl
@[simp] theorem onPins_fence : (s.onPins f).fence = s.fence := rfl
@[simp] theorem onPins_link : (s.onPins f).link = s.link := rfl
@[simp] theorem onPins_trail : (s.onPins f).trail = s.trail := rfl
@[simp] theorem onPins_freeCount : (s.onPins f).freeCount = s.freeCount := rfl

end

section

variable (s : State) (f : Backbone → Backbone)

@[simp] theorem onBus_pending : (s.onBus f).pending = s.pending := rfl
@[simp] theorem onBus_guardTime : (s.onBus f).guardTime = s.guardTime := rfl
@[simp] theorem onBus_phase : (s.onBus f).phase = s.phase := rfl
@[simp] theorem onBus_startKind : (s.onBus f).startKind = s.startKind := rfl
@[simp] theorem onBus_pins : (s.onBus f).pins = s.pins := rfl
@[simp] theorem onBus_loader : (s.onBus f).loader = s.loader := rfl
@[simp] theorem onBus_config : (s.onBus f).config = s.config := rfl
@[simp] theorem onBus_bus : (s.onBus f).bus = f s.bus := rfl
@[simp] theorem onBus_membership : (s.onBus f).membership = s.membership := rfl
@[simp] theorem onBus_admissions : (s.onBus f).admissions = s.admissions := rfl
@[simp] theorem onBus_slots : (s.onBus f).slots = s.slots := rfl
@[simp] theorem onBus_hold : (s.onBus f).hold = s.hold := rfl
@[simp] theorem onBus_memory : (s.onBus f).memory = s.memory := rfl
@[simp] theorem onBus_delivery : (s.onBus f).delivery = s.delivery := rfl
@[simp] theorem onBus_fence : (s.onBus f).fence = s.fence := rfl
@[simp] theorem onBus_link : (s.onBus f).link = s.link := rfl
@[simp] theorem onBus_trail : (s.onBus f).trail = s.trail := rfl
@[simp] theorem onBus_freeCount : (s.onBus f).freeCount = s.freeCount := rfl

end

section

variable (s : State) (f : Membership → Membership)

@[simp] theorem onMembership_pending : (s.onMembership f).pending = s.pending := rfl
@[simp] theorem onMembership_guardTime : (s.onMembership f).guardTime = s.guardTime := rfl
@[simp] theorem onMembership_phase : (s.onMembership f).phase = s.phase := rfl
@[simp] theorem onMembership_startKind : (s.onMembership f).startKind = s.startKind := rfl
@[simp] theorem onMembership_pins : (s.onMembership f).pins = s.pins := rfl
@[simp] theorem onMembership_loader : (s.onMembership f).loader = s.loader := rfl
@[simp] theorem onMembership_config : (s.onMembership f).config = s.config := rfl
@[simp] theorem onMembership_bus : (s.onMembership f).bus = s.bus := rfl
@[simp] theorem onMembership_membership : (s.onMembership f).membership = f s.membership := rfl
@[simp] theorem onMembership_admissions : (s.onMembership f).admissions = s.admissions := rfl
@[simp] theorem onMembership_slots : (s.onMembership f).slots = s.slots := rfl
@[simp] theorem onMembership_hold : (s.onMembership f).hold = s.hold := rfl
@[simp] theorem onMembership_memory : (s.onMembership f).memory = s.memory := rfl
@[simp] theorem onMembership_delivery : (s.onMembership f).delivery = s.delivery := rfl
@[simp] theorem onMembership_fence : (s.onMembership f).fence = s.fence := rfl
@[simp] theorem onMembership_link : (s.onMembership f).link = s.link := rfl
@[simp] theorem onMembership_trail : (s.onMembership f).trail = s.trail := rfl
@[simp] theorem onMembership_freeCount : (s.onMembership f).freeCount = s.freeCount := rfl

end

section

variable (s : State) (f : Hold → Hold)

@[simp] theorem onHold_pending : (s.onHold f).pending = s.pending := rfl
@[simp] theorem onHold_guardTime : (s.onHold f).guardTime = s.guardTime := rfl
@[simp] theorem onHold_phase : (s.onHold f).phase = s.phase := rfl
@[simp] theorem onHold_startKind : (s.onHold f).startKind = s.startKind := rfl
@[simp] theorem onHold_pins : (s.onHold f).pins = s.pins := rfl
@[simp] theorem onHold_loader : (s.onHold f).loader = s.loader := rfl
@[simp] theorem onHold_config : (s.onHold f).config = s.config := rfl
@[simp] theorem onHold_bus : (s.onHold f).bus = s.bus := rfl
@[simp] theorem onHold_membership : (s.onHold f).membership = s.membership := rfl
@[simp] theorem onHold_admissions : (s.onHold f).admissions = s.admissions := rfl
@[simp] theorem onHold_slots : (s.onHold f).slots = s.slots := rfl
@[simp] theorem onHold_hold : (s.onHold f).hold = f s.hold := rfl
@[simp] theorem onHold_memory : (s.onHold f).memory = s.memory := rfl
@[simp] theorem onHold_delivery : (s.onHold f).delivery = s.delivery := rfl
@[simp] theorem onHold_fence : (s.onHold f).fence = s.fence := rfl
@[simp] theorem onHold_link : (s.onHold f).link = s.link := rfl
@[simp] theorem onHold_trail : (s.onHold f).trail = s.trail := rfl
@[simp] theorem onHold_freeCount : (s.onHold f).freeCount = s.freeCount := rfl

end

section

variable (s : State) (f : Memory → Memory)

@[simp] theorem onMemory_pending : (s.onMemory f).pending = s.pending := rfl
@[simp] theorem onMemory_guardTime : (s.onMemory f).guardTime = s.guardTime := rfl
@[simp] theorem onMemory_phase : (s.onMemory f).phase = s.phase := rfl
@[simp] theorem onMemory_startKind : (s.onMemory f).startKind = s.startKind := rfl
@[simp] theorem onMemory_pins : (s.onMemory f).pins = s.pins := rfl
@[simp] theorem onMemory_loader : (s.onMemory f).loader = s.loader := rfl
@[simp] theorem onMemory_config : (s.onMemory f).config = s.config := rfl
@[simp] theorem onMemory_bus : (s.onMemory f).bus = s.bus := rfl
@[simp] theorem onMemory_membership : (s.onMemory f).membership = s.membership := rfl
@[simp] theorem onMemory_admissions : (s.onMemory f).admissions = s.admissions := rfl
@[simp] theorem onMemory_slots : (s.onMemory f).slots = s.slots := rfl
@[simp] theorem onMemory_hold : (s.onMemory f).hold = s.hold := rfl
@[simp] theorem onMemory_memory : (s.onMemory f).memory = f s.memory := rfl
@[simp] theorem onMemory_delivery : (s.onMemory f).delivery = s.delivery := rfl
@[simp] theorem onMemory_fence : (s.onMemory f).fence = s.fence := rfl
@[simp] theorem onMemory_link : (s.onMemory f).link = s.link := rfl
@[simp] theorem onMemory_trail : (s.onMemory f).trail = s.trail := rfl
@[simp] theorem onMemory_freeCount : (s.onMemory f).freeCount = s.freeCount := rfl

end

section

variable (s : State) (f : Delivery → Delivery)

@[simp] theorem onDelivery_pending : (s.onDelivery f).pending = s.pending := rfl
@[simp] theorem onDelivery_guardTime : (s.onDelivery f).guardTime = s.guardTime := rfl
@[simp] theorem onDelivery_phase : (s.onDelivery f).phase = s.phase := rfl
@[simp] theorem onDelivery_startKind : (s.onDelivery f).startKind = s.startKind := rfl
@[simp] theorem onDelivery_pins : (s.onDelivery f).pins = s.pins := rfl
@[simp] theorem onDelivery_loader : (s.onDelivery f).loader = s.loader := rfl
@[simp] theorem onDelivery_config : (s.onDelivery f).config = s.config := rfl
@[simp] theorem onDelivery_bus : (s.onDelivery f).bus = s.bus := rfl
@[simp] theorem onDelivery_membership : (s.onDelivery f).membership = s.membership := rfl
@[simp] theorem onDelivery_admissions : (s.onDelivery f).admissions = s.admissions := rfl
@[simp] theorem onDelivery_slots : (s.onDelivery f).slots = s.slots := rfl
@[simp] theorem onDelivery_hold : (s.onDelivery f).hold = s.hold := rfl
@[simp] theorem onDelivery_memory : (s.onDelivery f).memory = s.memory := rfl
@[simp] theorem onDelivery_delivery : (s.onDelivery f).delivery = f s.delivery := rfl
@[simp] theorem onDelivery_fence : (s.onDelivery f).fence = s.fence := rfl
@[simp] theorem onDelivery_link : (s.onDelivery f).link = s.link := rfl
@[simp] theorem onDelivery_trail : (s.onDelivery f).trail = s.trail := rfl
@[simp] theorem onDelivery_freeCount : (s.onDelivery f).freeCount = s.freeCount := rfl

end

section

variable (s : State) (f : Fence → Fence)

@[simp] theorem onFence_pending : (s.onFence f).pending = s.pending := rfl
@[simp] theorem onFence_guardTime : (s.onFence f).guardTime = s.guardTime := rfl
@[simp] theorem onFence_phase : (s.onFence f).phase = s.phase := rfl
@[simp] theorem onFence_startKind : (s.onFence f).startKind = s.startKind := rfl
@[simp] theorem onFence_pins : (s.onFence f).pins = s.pins := rfl
@[simp] theorem onFence_loader : (s.onFence f).loader = s.loader := rfl
@[simp] theorem onFence_config : (s.onFence f).config = s.config := rfl
@[simp] theorem onFence_bus : (s.onFence f).bus = s.bus := rfl
@[simp] theorem onFence_membership : (s.onFence f).membership = s.membership := rfl
@[simp] theorem onFence_admissions : (s.onFence f).admissions = s.admissions := rfl
@[simp] theorem onFence_slots : (s.onFence f).slots = s.slots := rfl
@[simp] theorem onFence_hold : (s.onFence f).hold = s.hold := rfl
@[simp] theorem onFence_memory : (s.onFence f).memory = s.memory := rfl
@[simp] theorem onFence_delivery : (s.onFence f).delivery = s.delivery := rfl
@[simp] theorem onFence_fence : (s.onFence f).fence = f s.fence := rfl
@[simp] theorem onFence_link : (s.onFence f).link = s.link := rfl
@[simp] theorem onFence_trail : (s.onFence f).trail = s.trail := rfl
@[simp] theorem onFence_freeCount : (s.onFence f).freeCount = s.freeCount := rfl

end

section

variable (s : State) (f : Link → Link)

@[simp] theorem onLink_pending : (s.onLink f).pending = s.pending := rfl
@[simp] theorem onLink_guardTime : (s.onLink f).guardTime = s.guardTime := rfl
@[simp] theorem onLink_phase : (s.onLink f).phase = s.phase := rfl
@[simp] theorem onLink_startKind : (s.onLink f).startKind = s.startKind := rfl
@[simp] theorem onLink_pins : (s.onLink f).pins = s.pins := rfl
@[simp] theorem onLink_loader : (s.onLink f).loader = s.loader := rfl
@[simp] theorem onLink_config : (s.onLink f).config = s.config := rfl
@[simp] theorem onLink_bus : (s.onLink f).bus = s.bus := rfl
@[simp] theorem onLink_membership : (s.onLink f).membership = s.membership := rfl
@[simp] theorem onLink_admissions : (s.onLink f).admissions = s.admissions := rfl
@[simp] theorem onLink_slots : (s.onLink f).slots = s.slots := rfl
@[simp] theorem onLink_hold : (s.onLink f).hold = s.hold := rfl
@[simp] theorem onLink_memory : (s.onLink f).memory = s.memory := rfl
@[simp] theorem onLink_delivery : (s.onLink f).delivery = s.delivery := rfl
@[simp] theorem onLink_fence : (s.onLink f).fence = s.fence := rfl
@[simp] theorem onLink_link : (s.onLink f).link = f s.link := rfl
@[simp] theorem onLink_trail : (s.onLink f).trail = s.trail := rfl
@[simp] theorem onLink_freeCount : (s.onLink f).freeCount = s.freeCount := rfl

end

section

variable (s : State) (f : Trail → Trail)

@[simp] theorem onTrail_pending : (s.onTrail f).pending = s.pending := rfl
@[simp] theorem onTrail_guardTime : (s.onTrail f).guardTime = s.guardTime := rfl
@[simp] theorem onTrail_phase : (s.onTrail f).phase = s.phase := rfl
@[simp] theorem onTrail_startKind : (s.onTrail f).startKind = s.startKind := rfl
@[simp] theorem onTrail_pins : (s.onTrail f).pins = s.pins := rfl
@[simp] theorem onTrail_loader : (s.onTrail f).loader = s.loader := rfl
@[simp] theorem onTrail_config : (s.onTrail f).config = s.config := rfl
@[simp] theorem onTrail_bus : (s.onTrail f).bus = s.bus := rfl
@[simp] theorem onTrail_membership : (s.onTrail f).membership = s.membership := rfl
@[simp] theorem onTrail_admissions : (s.onTrail f).admissions = s.admissions := rfl
@[simp] theorem onTrail_slots : (s.onTrail f).slots = s.slots := rfl
@[simp] theorem onTrail_hold : (s.onTrail f).hold = s.hold := rfl
@[simp] theorem onTrail_memory : (s.onTrail f).memory = s.memory := rfl
@[simp] theorem onTrail_delivery : (s.onTrail f).delivery = s.delivery := rfl
@[simp] theorem onTrail_fence : (s.onTrail f).fence = s.fence := rfl
@[simp] theorem onTrail_link : (s.onTrail f).link = s.link := rfl
@[simp] theorem onTrail_trail : (s.onTrail f).trail = f s.trail := rfl
@[simp] theorem onTrail_freeCount : (s.onTrail f).freeCount = s.freeCount := rfl

end

section

variable (s : State) (t : Tester) (a : Admission)

@[simp] theorem setAdmission_pending : (s.setAdmission t a).pending = s.pending := rfl
@[simp] theorem setAdmission_guardTime : (s.setAdmission t a).guardTime = s.guardTime := rfl
@[simp] theorem setAdmission_phase : (s.setAdmission t a).phase = s.phase := rfl
@[simp] theorem setAdmission_startKind : (s.setAdmission t a).startKind = s.startKind := rfl
@[simp] theorem setAdmission_pins : (s.setAdmission t a).pins = s.pins := rfl
@[simp] theorem setAdmission_loader : (s.setAdmission t a).loader = s.loader := rfl
@[simp] theorem setAdmission_config : (s.setAdmission t a).config = s.config := rfl
@[simp] theorem setAdmission_bus : (s.setAdmission t a).bus = s.bus := rfl
@[simp] theorem setAdmission_membership : (s.setAdmission t a).membership = s.membership := rfl
@[simp] theorem setAdmission_admissions : (s.setAdmission t a).admissions = s.admissions.set t.val a t.isLt := rfl
@[simp] theorem setAdmission_slots : (s.setAdmission t a).slots = s.slots := rfl
@[simp] theorem setAdmission_hold : (s.setAdmission t a).hold = s.hold := rfl
@[simp] theorem setAdmission_memory : (s.setAdmission t a).memory = s.memory := rfl
@[simp] theorem setAdmission_delivery : (s.setAdmission t a).delivery = s.delivery := rfl
@[simp] theorem setAdmission_fence : (s.setAdmission t a).fence = s.fence := rfl
@[simp] theorem setAdmission_link : (s.setAdmission t a).link = s.link := rfl
@[simp] theorem setAdmission_trail : (s.setAdmission t a).trail = s.trail := rfl
@[simp] theorem setAdmission_freeCount : (s.setAdmission t a).freeCount = s.freeCount := rfl

end

section

variable (s : State) (k : Fin 4) (x : Slot)

@[simp] theorem setSlot_pending : (s.setSlot k x).pending = s.pending := rfl
@[simp] theorem setSlot_guardTime : (s.setSlot k x).guardTime = s.guardTime := rfl
@[simp] theorem setSlot_phase : (s.setSlot k x).phase = s.phase := rfl
@[simp] theorem setSlot_startKind : (s.setSlot k x).startKind = s.startKind := rfl
@[simp] theorem setSlot_pins : (s.setSlot k x).pins = s.pins := rfl
@[simp] theorem setSlot_loader : (s.setSlot k x).loader = s.loader := rfl
@[simp] theorem setSlot_config : (s.setSlot k x).config = s.config := rfl
@[simp] theorem setSlot_bus : (s.setSlot k x).bus = s.bus := rfl
@[simp] theorem setSlot_membership : (s.setSlot k x).membership = s.membership := rfl
@[simp] theorem setSlot_admissions : (s.setSlot k x).admissions = s.admissions := rfl
@[simp] theorem setSlot_slots : (s.setSlot k x).slots = s.slots.set k.val x k.isLt := rfl
@[simp] theorem setSlot_hold : (s.setSlot k x).hold = s.hold := rfl
@[simp] theorem setSlot_memory : (s.setSlot k x).memory = s.memory := rfl
@[simp] theorem setSlot_delivery : (s.setSlot k x).delivery = s.delivery := rfl
@[simp] theorem setSlot_fence : (s.setSlot k x).fence = s.fence := rfl
@[simp] theorem setSlot_link : (s.setSlot k x).link = s.link := rfl
@[simp] theorem setSlot_trail : (s.setSlot k x).trail = s.trail := rfl
@[simp] theorem setSlot_freeCount : (s.setSlot k x).freeCount = s.freeCount := rfl

end

section

variable (s : State) (t : Tester) (l : Lane)

@[simp] theorem setLane_pending : (s.setLane t l).pending = s.pending := rfl
@[simp] theorem setLane_guardTime : (s.setLane t l).guardTime = s.guardTime := rfl
@[simp] theorem setLane_phase : (s.setLane t l).phase = s.phase := rfl
@[simp] theorem setLane_startKind : (s.setLane t l).startKind = s.startKind := rfl
@[simp] theorem setLane_pins : (s.setLane t l).pins = s.pins := rfl
@[simp] theorem setLane_loader : (s.setLane t l).loader = s.loader := rfl
@[simp] theorem setLane_config : (s.setLane t l).config = s.config := rfl
@[simp] theorem setLane_bus : (s.setLane t l).bus = s.bus := rfl
@[simp] theorem setLane_membership : (s.setLane t l).membership = s.membership := rfl
@[simp] theorem setLane_admissions : (s.setLane t l).admissions = s.admissions := rfl
@[simp] theorem setLane_slots : (s.setLane t l).slots = s.slots := rfl
@[simp] theorem setLane_hold : (s.setLane t l).hold = s.hold := rfl
@[simp] theorem setLane_memory : (s.setLane t l).memory = { s.memory with lanes := s.memory.lanes.set t.val l t.isLt } := rfl
@[simp] theorem setLane_delivery : (s.setLane t l).delivery = s.delivery := rfl
@[simp] theorem setLane_fence : (s.setLane t l).fence = s.fence := rfl
@[simp] theorem setLane_link : (s.setLane t l).link = s.link := rfl
@[simp] theorem setLane_trail : (s.setLane t l).trail = s.trail := rfl
@[simp] theorem setLane_freeCount : (s.setLane t l).freeCount = s.freeCount := rfl

end

section

variable (s : State) (p : Phase)

@[simp] theorem setPhase_pending : (s.setPhase p).pending = s.pending := rfl
@[simp] theorem setPhase_guardTime : (s.setPhase p).guardTime = s.guardTime := rfl
@[simp] theorem setPhase_phase : (s.setPhase p).phase = p := rfl
@[simp] theorem setPhase_startKind : (s.setPhase p).startKind = s.startKind := rfl
@[simp] theorem setPhase_pins : (s.setPhase p).pins = s.pins := rfl
@[simp] theorem setPhase_loader : (s.setPhase p).loader = s.loader := rfl
@[simp] theorem setPhase_config : (s.setPhase p).config = s.config := rfl
@[simp] theorem setPhase_bus : (s.setPhase p).bus = s.bus := rfl
@[simp] theorem setPhase_membership : (s.setPhase p).membership = s.membership := rfl
@[simp] theorem setPhase_admissions : (s.setPhase p).admissions = s.admissions := rfl
@[simp] theorem setPhase_slots : (s.setPhase p).slots = s.slots := rfl
@[simp] theorem setPhase_hold : (s.setPhase p).hold = s.hold := rfl
@[simp] theorem setPhase_memory : (s.setPhase p).memory = s.memory := rfl
@[simp] theorem setPhase_delivery : (s.setPhase p).delivery = s.delivery := rfl
@[simp] theorem setPhase_fence : (s.setPhase p).fence = s.fence := rfl
@[simp] theorem setPhase_link : (s.setPhase p).link = s.link := rfl
@[simp] theorem setPhase_trail : (s.setPhase p).trail = s.trail := rfl
@[simp] theorem setPhase_freeCount : (s.setPhase p).freeCount = s.freeCount := rfl

end

section

variable (s : State) (t : Time)

@[simp] theorem setGuardTime_pending : (s.setGuardTime t).pending = s.pending := rfl
@[simp] theorem setGuardTime_guardTime : (s.setGuardTime t).guardTime = t := rfl
@[simp] theorem setGuardTime_phase : (s.setGuardTime t).phase = s.phase := rfl
@[simp] theorem setGuardTime_startKind : (s.setGuardTime t).startKind = s.startKind := rfl
@[simp] theorem setGuardTime_pins : (s.setGuardTime t).pins = s.pins := rfl
@[simp] theorem setGuardTime_loader : (s.setGuardTime t).loader = s.loader := rfl
@[simp] theorem setGuardTime_config : (s.setGuardTime t).config = s.config := rfl
@[simp] theorem setGuardTime_bus : (s.setGuardTime t).bus = s.bus := rfl
@[simp] theorem setGuardTime_membership : (s.setGuardTime t).membership = s.membership := rfl
@[simp] theorem setGuardTime_admissions : (s.setGuardTime t).admissions = s.admissions := rfl
@[simp] theorem setGuardTime_slots : (s.setGuardTime t).slots = s.slots := rfl
@[simp] theorem setGuardTime_hold : (s.setGuardTime t).hold = s.hold := rfl
@[simp] theorem setGuardTime_memory : (s.setGuardTime t).memory = s.memory := rfl
@[simp] theorem setGuardTime_delivery : (s.setGuardTime t).delivery = s.delivery := rfl
@[simp] theorem setGuardTime_fence : (s.setGuardTime t).fence = s.fence := rfl
@[simp] theorem setGuardTime_link : (s.setGuardTime t).link = s.link := rfl
@[simp] theorem setGuardTime_trail : (s.setGuardTime t).trail = s.trail := rfl
@[simp] theorem setGuardTime_freeCount : (s.setGuardTime t).freeCount = s.freeCount := rfl

end

section

variable (s : State) (l : Loader)

@[simp] theorem setLoader_pending : (s.setLoader l).pending = s.pending := rfl
@[simp] theorem setLoader_guardTime : (s.setLoader l).guardTime = s.guardTime := rfl
@[simp] theorem setLoader_phase : (s.setLoader l).phase = s.phase := rfl
@[simp] theorem setLoader_startKind : (s.setLoader l).startKind = s.startKind := rfl
@[simp] theorem setLoader_pins : (s.setLoader l).pins = s.pins := rfl
@[simp] theorem setLoader_loader : (s.setLoader l).loader = l := rfl
@[simp] theorem setLoader_config : (s.setLoader l).config = s.config := rfl
@[simp] theorem setLoader_bus : (s.setLoader l).bus = s.bus := rfl
@[simp] theorem setLoader_membership : (s.setLoader l).membership = s.membership := rfl
@[simp] theorem setLoader_admissions : (s.setLoader l).admissions = s.admissions := rfl
@[simp] theorem setLoader_slots : (s.setLoader l).slots = s.slots := rfl
@[simp] theorem setLoader_hold : (s.setLoader l).hold = s.hold := rfl
@[simp] theorem setLoader_memory : (s.setLoader l).memory = s.memory := rfl
@[simp] theorem setLoader_delivery : (s.setLoader l).delivery = s.delivery := rfl
@[simp] theorem setLoader_fence : (s.setLoader l).fence = s.fence := rfl
@[simp] theorem setLoader_link : (s.setLoader l).link = s.link := rfl
@[simp] theorem setLoader_trail : (s.setLoader l).trail = s.trail := rfl
@[simp] theorem setLoader_freeCount : (s.setLoader l).freeCount = s.freeCount := rfl

end

section

variable (s : State) (c : Settings)

@[simp] theorem setConfig_pending : (s.setConfig c).pending = s.pending := rfl
@[simp] theorem setConfig_guardTime : (s.setConfig c).guardTime = s.guardTime := rfl
@[simp] theorem setConfig_phase : (s.setConfig c).phase = s.phase := rfl
@[simp] theorem setConfig_startKind : (s.setConfig c).startKind = s.startKind := rfl
@[simp] theorem setConfig_pins : (s.setConfig c).pins = s.pins := rfl
@[simp] theorem setConfig_loader : (s.setConfig c).loader = s.loader := rfl
@[simp] theorem setConfig_config : (s.setConfig c).config = c := rfl
@[simp] theorem setConfig_bus : (s.setConfig c).bus = s.bus := rfl
@[simp] theorem setConfig_membership : (s.setConfig c).membership = s.membership := rfl
@[simp] theorem setConfig_admissions : (s.setConfig c).admissions = s.admissions := rfl
@[simp] theorem setConfig_slots : (s.setConfig c).slots = s.slots := rfl
@[simp] theorem setConfig_hold : (s.setConfig c).hold = s.hold := rfl
@[simp] theorem setConfig_memory : (s.setConfig c).memory = s.memory := rfl
@[simp] theorem setConfig_delivery : (s.setConfig c).delivery = s.delivery := rfl
@[simp] theorem setConfig_fence : (s.setConfig c).fence = s.fence := rfl
@[simp] theorem setConfig_link : (s.setConfig c).link = s.link := rfl
@[simp] theorem setConfig_trail : (s.setConfig c).trail = s.trail := rfl
@[simp] theorem setConfig_freeCount : (s.setConfig c).freeCount = s.freeCount := rfl

end

end Sys2Proof.Machine.State
end

