-- ==== Sys2Proof/Laws/Frames.lean ====
section
/-!
SUPPORT. For each shared operation, the blocks it leaves as they stand: one lemma an operation, and no
later proof unfolds the operation to see it.
-/

namespace Sys2Proof.Machine.State

/-- What every step of a fold keeps, the fold keeps. -/
theorem foldl_keeps {α β : Type} (g : State → β) (f : State → α → State) (h : ∀ s a, g (f s a) = g s)
    (l : List α) (s : State) : g (l.foldl f s) = g s := by
  induction l generalizing s with
  | nil => rfl
  | cons a l ih => simp [ih, h]

@[simp] theorem count_keeps (s : State) (k : Fin 25) :
    (s.count k).pending = s.pending ∧ (s.count k).guardTime = s.guardTime ∧
    (s.count k).phase = s.phase ∧ (s.count k).startKind = s.startKind ∧
    (s.count k).pins = s.pins ∧ (s.count k).loader = s.loader ∧
    (s.count k).config = s.config ∧ (s.count k).bus = s.bus ∧
    (s.count k).membership = s.membership ∧ (s.count k).admissions = s.admissions ∧
    (s.count k).slots = s.slots ∧ (s.count k).hold = s.hold ∧
    (s.count k).memory = s.memory ∧ (s.count k).delivery = s.delivery ∧
    (s.count k).fence = s.fence ∧ (s.count k).link = s.link ∧
    (s.count k).freeCount = s.freeCount := by simp [State.count]

@[simp] theorem countReason_keeps (s : State) (r : Byte) :
    (s.countReason r).pending = s.pending ∧ (s.countReason r).guardTime = s.guardTime ∧
    (s.countReason r).phase = s.phase ∧ (s.countReason r).startKind = s.startKind ∧
    (s.countReason r).pins = s.pins ∧ (s.countReason r).loader = s.loader ∧
    (s.countReason r).config = s.config ∧ (s.countReason r).bus = s.bus ∧
    (s.countReason r).membership = s.membership ∧ (s.countReason r).admissions = s.admissions ∧
    (s.countReason r).slots = s.slots ∧ (s.countReason r).hold = s.hold ∧
    (s.countReason r).memory = s.memory ∧ (s.countReason r).delivery = s.delivery ∧
    (s.countReason r).fence = s.fence ∧ (s.countReason r).link = s.link ∧
    (s.countReason r).freeCount = s.freeCount := by
  unfold State.countReason; (try dsimp only); (repeat' split) <;> simp

@[simp] theorem post_keeps (s : State) (e : TrailEvent) (t : Option Tester) (i : Option ClaimId) (c : Option Class) (d : Byte) :
    (s.post e t i c d).pending = s.pending ∧ (s.post e t i c d).guardTime = s.guardTime ∧
    (s.post e t i c d).phase = s.phase ∧ (s.post e t i c d).startKind = s.startKind ∧
    (s.post e t i c d).pins = s.pins ∧ (s.post e t i c d).loader = s.loader ∧
    (s.post e t i c d).config = s.config ∧ (s.post e t i c d).bus = s.bus ∧
    (s.post e t i c d).membership = s.membership ∧ (s.post e t i c d).admissions = s.admissions ∧
    (s.post e t i c d).slots = s.slots ∧ (s.post e t i c d).hold = s.hold ∧
    (s.post e t i c d).memory = s.memory ∧ (s.post e t i c d).delivery = s.delivery ∧
    (s.post e t i c d).fence = s.fence ∧ (s.post e t i c d).link = s.link ∧
    (s.post e t i c d).freeCount = s.freeCount := by simp [State.post]

@[simp] theorem postFenceEntry_keeps (s : State) (c : FenceCause) :
    (s.postFenceEntry c).pending = s.pending ∧ (s.postFenceEntry c).guardTime = s.guardTime ∧
    (s.postFenceEntry c).phase = s.phase ∧ (s.postFenceEntry c).startKind = s.startKind ∧
    (s.postFenceEntry c).pins = s.pins ∧ (s.postFenceEntry c).loader = s.loader ∧
    (s.postFenceEntry c).config = s.config ∧ (s.postFenceEntry c).bus = s.bus ∧
    (s.postFenceEntry c).membership = s.membership ∧ (s.postFenceEntry c).admissions = s.admissions ∧
    (s.postFenceEntry c).slots = s.slots ∧ (s.postFenceEntry c).hold = s.hold ∧
    (s.postFenceEntry c).memory = s.memory ∧ (s.postFenceEntry c).delivery = s.delivery ∧
    (s.postFenceEntry c).fence = s.fence ∧ (s.postFenceEntry c).link = s.link ∧
    (s.postFenceEntry c).freeCount = s.freeCount := by simp [State.postFenceEntry]

@[simp] theorem offerCapture_keeps (s : State) (c : Capture) :
    (s.offerCapture c).pending = s.pending ∧ (s.offerCapture c).guardTime = s.guardTime ∧
    (s.offerCapture c).phase = s.phase ∧ (s.offerCapture c).startKind = s.startKind ∧
    (s.offerCapture c).pins = s.pins ∧ (s.offerCapture c).loader = s.loader ∧
    (s.offerCapture c).config = s.config ∧ (s.offerCapture c).bus = s.bus ∧
    (s.offerCapture c).membership = s.membership ∧ (s.offerCapture c).admissions = s.admissions ∧
    (s.offerCapture c).slots = s.slots ∧ (s.offerCapture c).hold = s.hold ∧
    (s.offerCapture c).memory = s.memory ∧ (s.offerCapture c).delivery = s.delivery ∧
    (s.offerCapture c).fence = s.fence ∧ (s.offerCapture c).link = s.link ∧
    (s.offerCapture c).freeCount = s.freeCount := by simp [State.offerCapture]

@[simp] theorem reachDue_keeps (s : State) (t : Timer) :
    (s.reachDue t).pending = s.pending ∧ (s.reachDue t).phase = s.phase ∧
    (s.reachDue t).startKind = s.startKind ∧ (s.reachDue t).pins = s.pins ∧
    (s.reachDue t).loader = s.loader ∧ (s.reachDue t).config = s.config ∧
    (s.reachDue t).bus = s.bus ∧ (s.reachDue t).membership = s.membership ∧
    (s.reachDue t).admissions = s.admissions ∧ (s.reachDue t).slots = s.slots ∧
    (s.reachDue t).hold = s.hold ∧ (s.reachDue t).memory = s.memory ∧
    (s.reachDue t).delivery = s.delivery ∧ (s.reachDue t).fence = s.fence ∧
    (s.reachDue t).link = s.link ∧ (s.reachDue t).trail = s.trail ∧
    (s.reachDue t).freeCount = s.freeCount := by
  unfold State.reachDue; (try dsimp only); (repeat' split) <;> simp

@[simp] theorem updateRecord_keeps (s : State) (i : ClaimId) (f : Record → Record) :
    (s.updateRecord i f).pending = s.pending ∧ (s.updateRecord i f).guardTime = s.guardTime ∧
    (s.updateRecord i f).phase = s.phase ∧ (s.updateRecord i f).startKind = s.startKind ∧
    (s.updateRecord i f).pins = s.pins ∧ (s.updateRecord i f).loader = s.loader ∧
    (s.updateRecord i f).config = s.config ∧ (s.updateRecord i f).bus = s.bus ∧
    (s.updateRecord i f).membership = s.membership ∧ (s.updateRecord i f).admissions = s.admissions ∧
    (s.updateRecord i f).slots = s.slots ∧ (s.updateRecord i f).memory = s.memory ∧
    (s.updateRecord i f).delivery = s.delivery ∧ (s.updateRecord i f).fence = s.fence ∧
    (s.updateRecord i f).link = s.link ∧ (s.updateRecord i f).trail = s.trail ∧
    (s.updateRecord i f).freeCount = s.freeCount := by simp [State.updateRecord]

@[simp] theorem updateSponsor_keeps (s : State) (i : ClaimId) (f : Sponsor → Sponsor) :
    (s.updateSponsor i f).pending = s.pending ∧ (s.updateSponsor i f).guardTime = s.guardTime ∧
    (s.updateSponsor i f).phase = s.phase ∧ (s.updateSponsor i f).startKind = s.startKind ∧
    (s.updateSponsor i f).pins = s.pins ∧ (s.updateSponsor i f).loader = s.loader ∧
    (s.updateSponsor i f).config = s.config ∧ (s.updateSponsor i f).bus = s.bus ∧
    (s.updateSponsor i f).membership = s.membership ∧ (s.updateSponsor i f).admissions = s.admissions ∧
    (s.updateSponsor i f).slots = s.slots ∧ (s.updateSponsor i f).memory = s.memory ∧
    (s.updateSponsor i f).delivery = s.delivery ∧ (s.updateSponsor i f).fence = s.fence ∧
    (s.updateSponsor i f).link = s.link ∧ (s.updateSponsor i f).trail = s.trail ∧
    (s.updateSponsor i f).freeCount = s.freeCount := by simp [State.updateSponsor]

@[simp] theorem createRecord_keeps (s : State) (r : Record) :
    (s.createRecord r).pending = s.pending ∧ (s.createRecord r).guardTime = s.guardTime ∧
    (s.createRecord r).phase = s.phase ∧ (s.createRecord r).startKind = s.startKind ∧
    (s.createRecord r).pins = s.pins ∧ (s.createRecord r).loader = s.loader ∧
    (s.createRecord r).config = s.config ∧ (s.createRecord r).bus = s.bus ∧
    (s.createRecord r).membership = s.membership ∧ (s.createRecord r).admissions = s.admissions ∧
    (s.createRecord r).slots = s.slots ∧ (s.createRecord r).memory = s.memory ∧
    (s.createRecord r).delivery = s.delivery ∧ (s.createRecord r).fence = s.fence ∧
    (s.createRecord r).link = s.link ∧ (s.createRecord r).trail = s.trail ∧
    (s.createRecord r).freeCount = s.freeCount := by simp [State.createRecord]

@[simp] theorem removeRecord_keeps (s : State) (i : ClaimId) :
    (s.removeRecord i).pending = s.pending ∧ (s.removeRecord i).guardTime = s.guardTime ∧
    (s.removeRecord i).phase = s.phase ∧ (s.removeRecord i).startKind = s.startKind ∧
    (s.removeRecord i).pins = s.pins ∧ (s.removeRecord i).loader = s.loader ∧
    (s.removeRecord i).config = s.config ∧ (s.removeRecord i).bus = s.bus ∧
    (s.removeRecord i).membership = s.membership ∧ (s.removeRecord i).admissions = s.admissions ∧
    (s.removeRecord i).slots = s.slots ∧ (s.removeRecord i).memory = s.memory ∧
    (s.removeRecord i).delivery = s.delivery ∧ (s.removeRecord i).fence = s.fence ∧
    (s.removeRecord i).link = s.link ∧ (s.removeRecord i).trail = s.trail ∧
    (s.removeRecord i).freeCount = s.freeCount := by simp [State.removeRecord]

@[simp] theorem setOperation_keeps (s : State) (i : ClaimId) (o : OpState) :
    (s.setOperation i o).pending = s.pending ∧ (s.setOperation i o).guardTime = s.guardTime ∧
    (s.setOperation i o).phase = s.phase ∧ (s.setOperation i o).startKind = s.startKind ∧
    (s.setOperation i o).pins = s.pins ∧ (s.setOperation i o).loader = s.loader ∧
    (s.setOperation i o).config = s.config ∧ (s.setOperation i o).bus = s.bus ∧
    (s.setOperation i o).membership = s.membership ∧ (s.setOperation i o).admissions = s.admissions ∧
    (s.setOperation i o).slots = s.slots ∧ (s.setOperation i o).memory = s.memory ∧
    (s.setOperation i o).delivery = s.delivery ∧ (s.setOperation i o).fence = s.fence ∧
    (s.setOperation i o).link = s.link ∧ (s.setOperation i o).trail = s.trail ∧
    (s.setOperation i o).freeCount = s.freeCount := by simp [State.setOperation]

@[simp] theorem releaseReservation_keeps (s : State) (i : ClaimId) :
    (s.releaseReservation i).pending = s.pending ∧ (s.releaseReservation i).guardTime = s.guardTime ∧
    (s.releaseReservation i).phase = s.phase ∧ (s.releaseReservation i).startKind = s.startKind ∧
    (s.releaseReservation i).pins = s.pins ∧ (s.releaseReservation i).loader = s.loader ∧
    (s.releaseReservation i).config = s.config ∧ (s.releaseReservation i).bus = s.bus ∧
    (s.releaseReservation i).membership = s.membership ∧ (s.releaseReservation i).admissions = s.admissions ∧
    (s.releaseReservation i).slots = s.slots ∧ (s.releaseReservation i).memory = s.memory ∧
    (s.releaseReservation i).delivery = s.delivery ∧ (s.releaseReservation i).fence = s.fence ∧
    (s.releaseReservation i).link = s.link ∧ (s.releaseReservation i).trail = s.trail ∧
    (s.releaseReservation i).freeCount = s.freeCount := by simp [State.releaseReservation]

@[simp] theorem joinQueue_keeps (s : State) (f : Frame) (n : Nat) :
    (s.joinQueue f n).pending = s.pending ∧ (s.joinQueue f n).guardTime = s.guardTime ∧
    (s.joinQueue f n).phase = s.phase ∧ (s.joinQueue f n).startKind = s.startKind ∧
    (s.joinQueue f n).pins = s.pins ∧ (s.joinQueue f n).loader = s.loader ∧
    (s.joinQueue f n).config = s.config ∧ (s.joinQueue f n).membership = s.membership ∧
    (s.joinQueue f n).admissions = s.admissions ∧ (s.joinQueue f n).slots = s.slots ∧
    (s.joinQueue f n).hold = s.hold ∧ (s.joinQueue f n).memory = s.memory ∧
    (s.joinQueue f n).delivery = s.delivery ∧ (s.joinQueue f n).fence = s.fence ∧
    (s.joinQueue f n).link = s.link ∧ (s.joinQueue f n).trail = s.trail ∧
    (s.joinQueue f n).freeCount = s.freeCount := by simp [State.joinQueue]

@[simp] theorem addOutstanding_keeps (s : State) (c : Clearing) :
    (s.addOutstanding c).pending = s.pending ∧ (s.addOutstanding c).guardTime = s.guardTime ∧
    (s.addOutstanding c).phase = s.phase ∧ (s.addOutstanding c).startKind = s.startKind ∧
    (s.addOutstanding c).pins = s.pins ∧ (s.addOutstanding c).loader = s.loader ∧
    (s.addOutstanding c).config = s.config ∧ (s.addOutstanding c).bus = s.bus ∧
    (s.addOutstanding c).admissions = s.admissions ∧ (s.addOutstanding c).slots = s.slots ∧
    (s.addOutstanding c).hold = s.hold ∧ (s.addOutstanding c).memory = s.memory ∧
    (s.addOutstanding c).delivery = s.delivery ∧ (s.addOutstanding c).fence = s.fence ∧
    (s.addOutstanding c).link = s.link ∧ (s.addOutstanding c).trail = s.trail ∧
    (s.addOutstanding c).freeCount = s.freeCount := by simp [State.addOutstanding]

@[simp] theorem offerRevoke_keeps (s : State) (r : ClearReason) :
    (s.offerRevoke r).pending = s.pending ∧ (s.offerRevoke r).guardTime = s.guardTime ∧
    (s.offerRevoke r).phase = s.phase ∧ (s.offerRevoke r).startKind = s.startKind ∧
    (s.offerRevoke r).pins = s.pins ∧ (s.offerRevoke r).loader = s.loader ∧
    (s.offerRevoke r).config = s.config ∧ (s.offerRevoke r).admissions = s.admissions ∧
    (s.offerRevoke r).slots = s.slots ∧ (s.offerRevoke r).hold = s.hold ∧
    (s.offerRevoke r).memory = s.memory ∧ (s.offerRevoke r).delivery = s.delivery ∧
    (s.offerRevoke r).fence = s.fence ∧ (s.offerRevoke r).link = s.link ∧
    (s.offerRevoke r).freeCount = s.freeCount := by
  unfold State.offerRevoke; (try dsimp only); (repeat' split) <;> simp

@[simp] theorem lossEvent_keeps (s : State) :
    (s.lossEvent).pending = s.pending ∧ (s.lossEvent).guardTime = s.guardTime ∧
    (s.lossEvent).phase = s.phase ∧ (s.lossEvent).startKind = s.startKind ∧
    (s.lossEvent).pins = s.pins ∧ (s.lossEvent).loader = s.loader ∧
    (s.lossEvent).config = s.config ∧ (s.lossEvent).admissions = s.admissions ∧
    (s.lossEvent).slots = s.slots ∧ (s.lossEvent).hold = s.hold ∧
    (s.lossEvent).memory = s.memory ∧ (s.lossEvent).delivery = s.delivery ∧
    (s.lossEvent).fence = s.fence ∧ (s.lossEvent).link = s.link ∧
    (s.lossEvent).freeCount = s.freeCount := by
  unfold State.lossEvent; (try dsimp only); (repeat' split) <;> simp

@[simp] theorem offerProtocol_keeps (s : State) (k : FrameKind) (p : List Byte) :
    (s.offerProtocol k p).pending = s.pending ∧ (s.offerProtocol k p).guardTime = s.guardTime ∧
    (s.offerProtocol k p).phase = s.phase ∧ (s.offerProtocol k p).startKind = s.startKind ∧
    (s.offerProtocol k p).pins = s.pins ∧ (s.offerProtocol k p).loader = s.loader ∧
    (s.offerProtocol k p).config = s.config ∧ (s.offerProtocol k p).admissions = s.admissions ∧
    (s.offerProtocol k p).slots = s.slots ∧ (s.offerProtocol k p).hold = s.hold ∧
    (s.offerProtocol k p).memory = s.memory ∧ (s.offerProtocol k p).delivery = s.delivery ∧
    (s.offerProtocol k p).fence = s.fence ∧ (s.offerProtocol k p).link = s.link ∧
    (s.offerProtocol k p).freeCount = s.freeCount := by
  unfold State.offerProtocol; (try dsimp only); (repeat' split) <;> simp

@[simp] theorem offerStatus_keeps (s : State) (k : FrameKind) (t : Tester) (p : List Byte) :
    (s.offerStatus k t p).pending = s.pending ∧ (s.offerStatus k t p).guardTime = s.guardTime ∧
    (s.offerStatus k t p).phase = s.phase ∧ (s.offerStatus k t p).startKind = s.startKind ∧
    (s.offerStatus k t p).pins = s.pins ∧ (s.offerStatus k t p).loader = s.loader ∧
    (s.offerStatus k t p).config = s.config ∧ (s.offerStatus k t p).membership = s.membership ∧
    (s.offerStatus k t p).admissions = s.admissions ∧ (s.offerStatus k t p).slots = s.slots ∧
    (s.offerStatus k t p).hold = s.hold ∧ (s.offerStatus k t p).memory = s.memory ∧
    (s.offerStatus k t p).delivery = s.delivery ∧ (s.offerStatus k t p).fence = s.fence ∧
    (s.offerStatus k t p).link = s.link ∧ (s.offerStatus k t p).freeCount = s.freeCount := by
  unfold State.offerStatus; (try dsimp only); (repeat' split) <;> simp

@[simp] theorem offerResult_keeps (s : State) (k : FrameKind) (t : Tester) (g r : Byte) (i : ClaimId) :
    (s.offerResult k t g r i).pending = s.pending ∧ (s.offerResult k t g r i).guardTime = s.guardTime ∧
    (s.offerResult k t g r i).phase = s.phase ∧ (s.offerResult k t g r i).startKind = s.startKind ∧
    (s.offerResult k t g r i).pins = s.pins ∧ (s.offerResult k t g r i).loader = s.loader ∧
    (s.offerResult k t g r i).config = s.config ∧ (s.offerResult k t g r i).membership = s.membership ∧
    (s.offerResult k t g r i).admissions = s.admissions ∧ (s.offerResult k t g r i).slots = s.slots ∧
    (s.offerResult k t g r i).hold = s.hold ∧ (s.offerResult k t g r i).memory = s.memory ∧
    (s.offerResult k t g r i).delivery = s.delivery ∧ (s.offerResult k t g r i).fence = s.fence ∧
    (s.offerResult k t g r i).link = s.link ∧ (s.offerResult k t g r i).freeCount = s.freeCount := by simp [State.offerResult]

@[simp] theorem offerClaimStatus_keeps (s : State) (t : Tester) (i : ClaimId) (g st r : Byte) (c : Class) (n : Nat) :
    (s.offerClaimStatus t i g st r c n).pending = s.pending ∧ (s.offerClaimStatus t i g st r c n).guardTime = s.guardTime ∧
    (s.offerClaimStatus t i g st r c n).phase = s.phase ∧ (s.offerClaimStatus t i g st r c n).startKind = s.startKind ∧
    (s.offerClaimStatus t i g st r c n).pins = s.pins ∧ (s.offerClaimStatus t i g st r c n).loader = s.loader ∧
    (s.offerClaimStatus t i g st r c n).config = s.config ∧ (s.offerClaimStatus t i g st r c n).membership = s.membership ∧
    (s.offerClaimStatus t i g st r c n).admissions = s.admissions ∧ (s.offerClaimStatus t i g st r c n).slots = s.slots ∧
    (s.offerClaimStatus t i g st r c n).hold = s.hold ∧ (s.offerClaimStatus t i g st r c n).memory = s.memory ∧
    (s.offerClaimStatus t i g st r c n).delivery = s.delivery ∧ (s.offerClaimStatus t i g st r c n).fence = s.fence ∧
    (s.offerClaimStatus t i g st r c n).link = s.link ∧ (s.offerClaimStatus t i g st r c n).freeCount = s.freeCount := by
  unfold State.offerClaimStatus; (try dsimp only); (repeat' split) <;> simp

@[simp] theorem queueNotice_keeps (s : State) (n : Notice) :
    (s.queueNotice n).pending = s.pending ∧ (s.queueNotice n).guardTime = s.guardTime ∧
    (s.queueNotice n).phase = s.phase ∧ (s.queueNotice n).startKind = s.startKind ∧
    (s.queueNotice n).pins = s.pins ∧ (s.queueNotice n).loader = s.loader ∧
    (s.queueNotice n).config = s.config ∧ (s.queueNotice n).bus = s.bus ∧
    (s.queueNotice n).membership = s.membership ∧ (s.queueNotice n).admissions = s.admissions ∧
    (s.queueNotice n).slots = s.slots ∧ (s.queueNotice n).hold = s.hold ∧
    (s.queueNotice n).memory = s.memory ∧ (s.queueNotice n).delivery = s.delivery ∧
    (s.queueNotice n).fence = s.fence ∧ (s.queueNotice n).trail = s.trail ∧
    (s.queueNotice n).freeCount = s.freeCount := by simp [State.queueNotice]

@[simp] theorem claimNotice_keeps (s : State) (k : NoticeKind) (r : Record) (b : Byte) :
    (s.claimNotice k r b).pending = s.pending ∧ (s.claimNotice k r b).guardTime = s.guardTime ∧
    (s.claimNotice k r b).phase = s.phase ∧ (s.claimNotice k r b).startKind = s.startKind ∧
    (s.claimNotice k r b).pins = s.pins ∧ (s.claimNotice k r b).loader = s.loader ∧
    (s.claimNotice k r b).config = s.config ∧ (s.claimNotice k r b).bus = s.bus ∧
    (s.claimNotice k r b).membership = s.membership ∧ (s.claimNotice k r b).admissions = s.admissions ∧
    (s.claimNotice k r b).slots = s.slots ∧ (s.claimNotice k r b).hold = s.hold ∧
    (s.claimNotice k r b).memory = s.memory ∧ (s.claimNotice k r b).delivery = s.delivery ∧
    (s.claimNotice k r b).fence = s.fence ∧ (s.claimNotice k r b).trail = s.trail ∧
    (s.claimNotice k r b).freeCount = s.freeCount := by simp [State.claimNotice]

@[simp] theorem freeBlocks_keeps (s : State) (n : Nat) :
    (s.freeBlocks n).pending = s.pending ∧ (s.freeBlocks n).guardTime = s.guardTime ∧
    (s.freeBlocks n).phase = s.phase ∧ (s.freeBlocks n).startKind = s.startKind ∧
    (s.freeBlocks n).pins = s.pins ∧ (s.freeBlocks n).loader = s.loader ∧
    (s.freeBlocks n).config = s.config ∧ (s.freeBlocks n).bus = s.bus ∧
    (s.freeBlocks n).membership = s.membership ∧ (s.freeBlocks n).admissions = s.admissions ∧
    (s.freeBlocks n).slots = s.slots ∧ (s.freeBlocks n).hold = s.hold ∧
    (s.freeBlocks n).delivery = s.delivery ∧ (s.freeBlocks n).fence = s.fence ∧
    (s.freeBlocks n).link = s.link ∧ (s.freeBlocks n).trail = s.trail ∧
    (s.freeBlocks n).freeCount = s.freeCount := by simp [State.freeBlocks]

@[simp] theorem takeBlocks_keeps (s : State) (n : Nat) :
    (s.takeBlocks n).pending = s.pending ∧ (s.takeBlocks n).guardTime = s.guardTime ∧
    (s.takeBlocks n).phase = s.phase ∧ (s.takeBlocks n).startKind = s.startKind ∧
    (s.takeBlocks n).pins = s.pins ∧ (s.takeBlocks n).loader = s.loader ∧
    (s.takeBlocks n).config = s.config ∧ (s.takeBlocks n).bus = s.bus ∧
    (s.takeBlocks n).membership = s.membership ∧ (s.takeBlocks n).admissions = s.admissions ∧
    (s.takeBlocks n).slots = s.slots ∧ (s.takeBlocks n).hold = s.hold ∧
    (s.takeBlocks n).delivery = s.delivery ∧ (s.takeBlocks n).fence = s.fence ∧
    (s.takeBlocks n).link = s.link ∧ (s.takeBlocks n).trail = s.trail ∧
    (s.takeBlocks n).freeCount = s.freeCount := by simp [State.takeBlocks]

@[simp] theorem requestResult_keeps (s : State) (k : FrameKind) (t : Tester) (g r : Byte) (i : ClaimId) :
    (s.requestResult k t g r i).pending = s.pending ∧ (s.requestResult k t g r i).guardTime = s.guardTime ∧
    (s.requestResult k t g r i).phase = s.phase ∧ (s.requestResult k t g r i).startKind = s.startKind ∧
    (s.requestResult k t g r i).pins = s.pins ∧ (s.requestResult k t g r i).loader = s.loader ∧
    (s.requestResult k t g r i).config = s.config ∧ (s.requestResult k t g r i).membership = s.membership ∧
    (s.requestResult k t g r i).admissions = s.admissions ∧ (s.requestResult k t g r i).slots = s.slots ∧
    (s.requestResult k t g r i).hold = s.hold ∧ (s.requestResult k t g r i).memory = s.memory ∧
    (s.requestResult k t g r i).delivery = s.delivery ∧ (s.requestResult k t g r i).fence = s.fence ∧
    (s.requestResult k t g r i).link = s.link ∧ (s.requestResult k t g r i).freeCount = s.freeCount := by simp [State.requestResult]

@[simp] theorem refuseRequest_keeps (s : State) (k : FrameKind) (t : Tester) (g r : Byte) (i : ClaimId) (c : Option Class) (n : Nat) (d : List Byte) :
    (s.refuseRequest k t g r i c n d).pending = s.pending ∧ (s.refuseRequest k t g r i c n d).guardTime = s.guardTime ∧
    (s.refuseRequest k t g r i c n d).phase = s.phase ∧ (s.refuseRequest k t g r i c n d).startKind = s.startKind ∧
    (s.refuseRequest k t g r i c n d).pins = s.pins ∧ (s.refuseRequest k t g r i c n d).loader = s.loader ∧
    (s.refuseRequest k t g r i c n d).config = s.config ∧ (s.refuseRequest k t g r i c n d).membership = s.membership ∧
    (s.refuseRequest k t g r i c n d).admissions = s.admissions ∧ (s.refuseRequest k t g r i c n d).slots = s.slots ∧
    (s.refuseRequest k t g r i c n d).hold = s.hold ∧ (s.refuseRequest k t g r i c n d).memory = s.memory ∧
    (s.refuseRequest k t g r i c n d).delivery = s.delivery ∧ (s.refuseRequest k t g r i c n d).fence = s.fence ∧
    (s.refuseRequest k t g r i c n d).link = s.link ∧ (s.refuseRequest k t g r i c n d).freeCount = s.freeCount := by simp [State.refuseRequest]

@[simp] theorem stageAnswer_keeps (s : State) (a : Answer) :
    (s.stageAnswer a).pending = s.pending ∧ (s.stageAnswer a).guardTime = s.guardTime ∧
    (s.stageAnswer a).phase = s.phase ∧ (s.stageAnswer a).startKind = s.startKind ∧
    (s.stageAnswer a).pins = s.pins ∧ (s.stageAnswer a).loader = s.loader ∧
    (s.stageAnswer a).config = s.config ∧ (s.stageAnswer a).bus = s.bus ∧
    (s.stageAnswer a).membership = s.membership ∧ (s.stageAnswer a).admissions = s.admissions ∧
    (s.stageAnswer a).slots = s.slots ∧ (s.stageAnswer a).hold = s.hold ∧
    (s.stageAnswer a).delivery = s.delivery ∧ (s.stageAnswer a).fence = s.fence ∧
    (s.stageAnswer a).link = s.link ∧ (s.stageAnswer a).trail = s.trail ∧
    (s.stageAnswer a).freeCount = s.freeCount := by simp [State.stageAnswer]

@[simp] theorem popHead_keeps (s : State) :
    (s.popHead).pending = s.pending ∧ (s.popHead).guardTime = s.guardTime ∧
    (s.popHead).phase = s.phase ∧ (s.popHead).startKind = s.startKind ∧
    (s.popHead).pins = s.pins ∧ (s.popHead).loader = s.loader ∧
    (s.popHead).config = s.config ∧ (s.popHead).membership = s.membership ∧
    (s.popHead).admissions = s.admissions ∧ (s.popHead).slots = s.slots ∧
    (s.popHead).hold = s.hold ∧ (s.popHead).memory = s.memory ∧
    (s.popHead).delivery = s.delivery ∧ (s.popHead).fence = s.fence ∧
    (s.popHead).link = s.link ∧ (s.popHead).trail = s.trail ∧
    (s.popHead).freeCount = s.freeCount := by simp [State.popHead]

@[simp] theorem quietRefresh_keeps (s : State) (t : Tester) :
    (s.quietRefresh t).pending = s.pending ∧ (s.quietRefresh t).guardTime = s.guardTime ∧
    (s.quietRefresh t).phase = s.phase ∧ (s.quietRefresh t).startKind = s.startKind ∧
    (s.quietRefresh t).pins = s.pins ∧ (s.quietRefresh t).loader = s.loader ∧
    (s.quietRefresh t).config = s.config ∧ (s.quietRefresh t).bus = s.bus ∧
    (s.quietRefresh t).membership = s.membership ∧ (s.quietRefresh t).slots = s.slots ∧
    (s.quietRefresh t).hold = s.hold ∧ (s.quietRefresh t).memory = s.memory ∧
    (s.quietRefresh t).delivery = s.delivery ∧ (s.quietRefresh t).fence = s.fence ∧
    (s.quietRefresh t).link = s.link ∧ (s.quietRefresh t).trail = s.trail ∧
    (s.quietRefresh t).freeCount = s.freeCount := by
  unfold State.quietRefresh; (try dsimp only); (repeat' split) <;> simp

@[simp] theorem entryGone_keeps (s : State) (r : Option Byte) (e : QueueEntry) :
    (s.entryGone r e).pending = s.pending ∧ (s.entryGone r e).guardTime = s.guardTime ∧
    (s.entryGone r e).phase = s.phase ∧ (s.entryGone r e).startKind = s.startKind ∧
    (s.entryGone r e).pins = s.pins ∧ (s.entryGone r e).loader = s.loader ∧
    (s.entryGone r e).config = s.config ∧ (s.entryGone r e).membership = s.membership ∧
    (s.entryGone r e).admissions = s.admissions ∧ (s.entryGone r e).slots = s.slots ∧
    (s.entryGone r e).hold = s.hold ∧ (s.entryGone r e).delivery = s.delivery ∧
    (s.entryGone r e).fence = s.fence ∧ (s.entryGone r e).link = s.link ∧
    (s.entryGone r e).freeCount = s.freeCount := by
  cases r <;> simp [State.entryGone]

@[simp] theorem removeEntries_keeps (s : State) (p : QueueEntry → Bool) (r : Option Byte) :
    (s.removeEntries p r).pending = s.pending ∧ (s.removeEntries p r).guardTime = s.guardTime ∧
    (s.removeEntries p r).phase = s.phase ∧ (s.removeEntries p r).startKind = s.startKind ∧
    (s.removeEntries p r).pins = s.pins ∧ (s.removeEntries p r).loader = s.loader ∧
    (s.removeEntries p r).config = s.config ∧ (s.removeEntries p r).membership = s.membership ∧
    (s.removeEntries p r).admissions = s.admissions ∧ (s.removeEntries p r).slots = s.slots ∧
    (s.removeEntries p r).hold = s.hold ∧ (s.removeEntries p r).fence = s.fence ∧
    (s.removeEntries p r).link = s.link ∧ (s.removeEntries p r).freeCount = s.freeCount := ⟨
  (foldl_keeps State.pending _ (fun _ _ => by simp) _ _).trans (by simp),
  (foldl_keeps State.guardTime _ (fun _ _ => by simp) _ _).trans (by simp),
  (foldl_keeps State.phase _ (fun _ _ => by simp) _ _).trans (by simp),
  (foldl_keeps State.startKind _ (fun _ _ => by simp) _ _).trans (by simp),
  (foldl_keeps State.pins _ (fun _ _ => by simp) _ _).trans (by simp),
  (foldl_keeps State.loader _ (fun _ _ => by simp) _ _).trans (by simp),
  (foldl_keeps State.config _ (fun _ _ => by simp) _ _).trans (by simp),
  (foldl_keeps State.membership _ (fun _ _ => by simp) _ _).trans (by simp),
  (foldl_keeps State.admissions _ (fun _ _ => by simp) _ _).trans (by simp),
  (foldl_keeps State.slots _ (fun _ _ => by simp) _ _).trans (by simp),
  (foldl_keeps State.hold _ (fun _ _ => by simp) _ _).trans (by simp),
  (foldl_keeps State.fence _ (fun _ _ => by simp) _ _).trans (by simp),
  (foldl_keeps State.link _ (fun _ _ => by simp) _ _).trans (by simp),
  (foldl_keeps State.freeCount _ (fun _ _ => by simp) _ _).trans (by simp)⟩

@[simp] theorem updateService_keeps (s : State) (f : Service → Service) :
    (s.updateService f).pending = s.pending ∧ (s.updateService f).guardTime = s.guardTime ∧
    (s.updateService f).phase = s.phase ∧ (s.updateService f).startKind = s.startKind ∧
    (s.updateService f).pins = s.pins ∧ (s.updateService f).loader = s.loader ∧
    (s.updateService f).config = s.config ∧ (s.updateService f).bus = s.bus ∧
    (s.updateService f).membership = s.membership ∧ (s.updateService f).admissions = s.admissions ∧
    (s.updateService f).slots = s.slots ∧ (s.updateService f).hold = s.hold ∧
    (s.updateService f).memory = s.memory ∧ (s.updateService f).fence = s.fence ∧
    (s.updateService f).link = s.link ∧ (s.updateService f).trail = s.trail ∧
    (s.updateService f).freeCount = s.freeCount := by simp [State.updateService]

@[simp] theorem emptySlot_keeps (s : State) (v : Service) :
    (s.emptySlot v).pending = s.pending ∧ (s.emptySlot v).guardTime = s.guardTime ∧
    (s.emptySlot v).phase = s.phase ∧ (s.emptySlot v).startKind = s.startKind ∧
    (s.emptySlot v).pins = s.pins ∧ (s.emptySlot v).loader = s.loader ∧
    (s.emptySlot v).config = s.config ∧ (s.emptySlot v).bus = s.bus ∧
    (s.emptySlot v).membership = s.membership ∧ (s.emptySlot v).admissions = s.admissions ∧
    (s.emptySlot v).slots = s.slots ∧ (s.emptySlot v).fence = s.fence ∧
    (s.emptySlot v).link = s.link ∧ (s.emptySlot v).trail = s.trail ∧
    (s.emptySlot v).freeCount = s.freeCount := by
  unfold State.emptySlot; (try dsimp only); (repeat' split) <;> simp

@[simp] theorem leaveSlot_keeps (s : State) (v : Service) :
    (s.leaveSlot v).pending = s.pending ∧ (s.leaveSlot v).guardTime = s.guardTime ∧
    (s.leaveSlot v).phase = s.phase ∧ (s.leaveSlot v).startKind = s.startKind ∧
    (s.leaveSlot v).pins = s.pins ∧ (s.leaveSlot v).loader = s.loader ∧
    (s.leaveSlot v).config = s.config ∧ (s.leaveSlot v).bus = s.bus ∧
    (s.leaveSlot v).membership = s.membership ∧ (s.leaveSlot v).admissions = s.admissions ∧
    (s.leaveSlot v).slots = s.slots ∧ (s.leaveSlot v).fence = s.fence ∧
    (s.leaveSlot v).link = s.link ∧ (s.leaveSlot v).trail = s.trail ∧
    (s.leaveSlot v).freeCount = s.freeCount := by simp [State.leaveSlot]

@[simp] theorem writeIncident_keeps (s : State) (i : Incident) :
    (s.writeIncident i).pending = s.pending ∧ (s.writeIncident i).guardTime = s.guardTime ∧
    (s.writeIncident i).phase = s.phase ∧ (s.writeIncident i).startKind = s.startKind ∧
    (s.writeIncident i).pins = s.pins ∧ (s.writeIncident i).loader = s.loader ∧
    (s.writeIncident i).config = s.config ∧ (s.writeIncident i).bus = s.bus ∧
    (s.writeIncident i).membership = s.membership ∧ (s.writeIncident i).admissions = s.admissions ∧
    (s.writeIncident i).slots = s.slots ∧ (s.writeIncident i).hold = s.hold ∧
    (s.writeIncident i).memory = s.memory ∧ (s.writeIncident i).delivery = s.delivery ∧
    (s.writeIncident i).link = s.link ∧ (s.writeIncident i).trail = s.trail ∧
    (s.writeIncident i).freeCount = s.freeCount := by simp [State.writeIncident]

@[simp] theorem updateIncident_keeps (s : State) (f : Incident → Incident) :
    (s.updateIncident f).pending = s.pending ∧ (s.updateIncident f).guardTime = s.guardTime ∧
    (s.updateIncident f).phase = s.phase ∧ (s.updateIncident f).startKind = s.startKind ∧
    (s.updateIncident f).pins = s.pins ∧ (s.updateIncident f).loader = s.loader ∧
    (s.updateIncident f).config = s.config ∧ (s.updateIncident f).bus = s.bus ∧
    (s.updateIncident f).membership = s.membership ∧ (s.updateIncident f).admissions = s.admissions ∧
    (s.updateIncident f).slots = s.slots ∧ (s.updateIncident f).hold = s.hold ∧
    (s.updateIncident f).memory = s.memory ∧ (s.updateIncident f).delivery = s.delivery ∧
    (s.updateIncident f).link = s.link ∧ (s.updateIncident f).trail = s.trail ∧
    (s.updateIncident f).freeCount = s.freeCount := by simp [State.updateIncident]

@[simp] theorem issueStopFor_keeps (s : State) (v : Service) (c : StopCause) :
    (s.issueStopFor v c).pending = s.pending ∧ (s.issueStopFor v c).guardTime = s.guardTime ∧
    (s.issueStopFor v c).phase = s.phase ∧ (s.issueStopFor v c).startKind = s.startKind ∧
    (s.issueStopFor v c).pins = s.pins ∧ (s.issueStopFor v c).loader = s.loader ∧
    (s.issueStopFor v c).config = s.config ∧ (s.issueStopFor v c).bus = s.bus ∧
    (s.issueStopFor v c).membership = s.membership ∧ (s.issueStopFor v c).admissions = s.admissions ∧
    (s.issueStopFor v c).slots = s.slots ∧ (s.issueStopFor v c).memory = s.memory ∧
    (s.issueStopFor v c).freeCount = s.freeCount := by simp [State.issueStopFor]

@[simp] theorem askStop_keeps (s : State) (c : StopCause) :
    (s.askStop c).pending = s.pending ∧ (s.askStop c).guardTime = s.guardTime ∧
    (s.askStop c).phase = s.phase ∧ (s.askStop c).startKind = s.startKind ∧
    (s.askStop c).pins = s.pins ∧ (s.askStop c).loader = s.loader ∧
    (s.askStop c).config = s.config ∧ (s.askStop c).bus = s.bus ∧
    (s.askStop c).membership = s.membership ∧ (s.askStop c).admissions = s.admissions ∧
    (s.askStop c).slots = s.slots ∧ (s.askStop c).memory = s.memory ∧
    (s.askStop c).freeCount = s.freeCount := by
  unfold State.askStop; (try dsimp only); (repeat' split) <;> simp

@[simp] theorem withdrawStopNotice_keeps (s : State) :
    (s.withdrawStopNotice).pending = s.pending ∧ (s.withdrawStopNotice).guardTime = s.guardTime ∧
    (s.withdrawStopNotice).phase = s.phase ∧ (s.withdrawStopNotice).startKind = s.startKind ∧
    (s.withdrawStopNotice).pins = s.pins ∧ (s.withdrawStopNotice).loader = s.loader ∧
    (s.withdrawStopNotice).config = s.config ∧ (s.withdrawStopNotice).bus = s.bus ∧
    (s.withdrawStopNotice).membership = s.membership ∧ (s.withdrawStopNotice).admissions = s.admissions ∧
    (s.withdrawStopNotice).slots = s.slots ∧ (s.withdrawStopNotice).hold = s.hold ∧
    (s.withdrawStopNotice).memory = s.memory ∧ (s.withdrawStopNotice).delivery = s.delivery ∧
    (s.withdrawStopNotice).fence = s.fence ∧ (s.withdrawStopNotice).trail = s.trail ∧
    (s.withdrawStopNotice).freeCount = s.freeCount := by simp [State.withdrawStopNotice]

@[simp] theorem settleStop_keeps (s : State) (o : StopOrder) (v : Service) (x : IncidentOutcome) :
    (s.settleStop o v x).pending = s.pending ∧ (s.settleStop o v x).guardTime = s.guardTime ∧
    (s.settleStop o v x).phase = s.phase ∧ (s.settleStop o v x).startKind = s.startKind ∧
    (s.settleStop o v x).pins = s.pins ∧ (s.settleStop o v x).loader = s.loader ∧
    (s.settleStop o v x).config = s.config ∧ (s.settleStop o v x).membership = s.membership ∧
    (s.settleStop o v x).admissions = s.admissions ∧ (s.settleStop o v x).slots = s.slots ∧
    (s.settleStop o v x).freeCount = s.freeCount := by
  unfold State.settleStop; (try dsimp only); (repeat' split) <;> simp

@[simp] theorem leaveStopNotice_keeps (s : State) :
    (s.leaveStopNotice).pending = s.pending ∧ (s.leaveStopNotice).guardTime = s.guardTime ∧
    (s.leaveStopNotice).phase = s.phase ∧ (s.leaveStopNotice).startKind = s.startKind ∧
    (s.leaveStopNotice).pins = s.pins ∧ (s.leaveStopNotice).loader = s.loader ∧
    (s.leaveStopNotice).config = s.config ∧ (s.leaveStopNotice).bus = s.bus ∧
    (s.leaveStopNotice).membership = s.membership ∧ (s.leaveStopNotice).admissions = s.admissions ∧
    (s.leaveStopNotice).slots = s.slots ∧ (s.leaveStopNotice).hold = s.hold ∧
    (s.leaveStopNotice).memory = s.memory ∧ (s.leaveStopNotice).delivery = s.delivery ∧
    (s.leaveStopNotice).fence = s.fence ∧ (s.leaveStopNotice).trail = s.trail ∧
    (s.leaveStopNotice).freeCount = s.freeCount := by simp [State.leaveStopNotice]

@[simp] theorem abandonStop_keeps (s : State) :
    (s.abandonStop).pending = s.pending ∧ (s.abandonStop).guardTime = s.guardTime ∧
    (s.abandonStop).phase = s.phase ∧ (s.abandonStop).startKind = s.startKind ∧
    (s.abandonStop).pins = s.pins ∧ (s.abandonStop).loader = s.loader ∧
    (s.abandonStop).config = s.config ∧ (s.abandonStop).membership = s.membership ∧
    (s.abandonStop).admissions = s.admissions ∧ (s.abandonStop).slots = s.slots ∧
    (s.abandonStop).freeCount = s.freeCount := by
  unfold State.abandonStop; (try dsimp only); (repeat' split) <;> simp

@[simp] theorem discardEffecting_keeps (s : State) :
    (s.discardEffecting).pending = s.pending ∧ (s.discardEffecting).guardTime = s.guardTime ∧
    (s.discardEffecting).phase = s.phase ∧ (s.discardEffecting).startKind = s.startKind ∧
    (s.discardEffecting).pins = s.pins ∧ (s.discardEffecting).loader = s.loader ∧
    (s.discardEffecting).config = s.config ∧ (s.discardEffecting).membership = s.membership ∧
    (s.discardEffecting).admissions = s.admissions ∧ (s.discardEffecting).slots = s.slots ∧
    (s.discardEffecting).fence = s.fence ∧ (s.discardEffecting).link = s.link ∧
    (s.discardEffecting).freeCount = s.freeCount := by
  unfold State.discardEffecting; (try dsimp only); (repeat' split) <;> simp

@[simp] theorem requestRevoke_keeps (s : State) :
    (s.requestRevoke).pending = s.pending ∧ (s.requestRevoke).guardTime = s.guardTime ∧
    (s.requestRevoke).phase = s.phase ∧ (s.requestRevoke).startKind = s.startKind ∧
    (s.requestRevoke).pins = s.pins ∧ (s.requestRevoke).loader = s.loader ∧
    (s.requestRevoke).config = s.config ∧ (s.requestRevoke).admissions = s.admissions ∧
    (s.requestRevoke).slots = s.slots ∧ (s.requestRevoke).hold = s.hold ∧
    (s.requestRevoke).memory = s.memory ∧ (s.requestRevoke).delivery = s.delivery ∧
    (s.requestRevoke).fence = s.fence ∧ (s.requestRevoke).link = s.link ∧
    (s.requestRevoke).freeCount = s.freeCount := by
  unfold State.requestRevoke; (try dsimp only); (repeat' split) <;> simp

@[simp] theorem enterFenced_keeps (s : State) (c : FenceCause) (i : Incident) :
    (s.enterFenced c i).pending = s.pending ∧ (s.enterFenced c i).guardTime = s.guardTime ∧
    (s.enterFenced c i).phase = s.phase ∧ (s.enterFenced c i).startKind = s.startKind ∧
    (s.enterFenced c i).pins = s.pins ∧ (s.enterFenced c i).loader = s.loader ∧
    (s.enterFenced c i).config = s.config ∧ (s.enterFenced c i).admissions = s.admissions ∧
    (s.enterFenced c i).slots = s.slots ∧ (s.enterFenced c i).freeCount = s.freeCount := by simp [State.enterFenced]

@[simp] theorem takeFenceCause_keeps (s : State) (c : FenceCause) (i : Incident) :
    (s.takeFenceCause c i).pending = s.pending ∧ (s.takeFenceCause c i).guardTime = s.guardTime ∧
    (s.takeFenceCause c i).phase = s.phase ∧ (s.takeFenceCause c i).startKind = s.startKind ∧
    (s.takeFenceCause c i).pins = s.pins ∧ (s.takeFenceCause c i).loader = s.loader ∧
    (s.takeFenceCause c i).config = s.config ∧ (s.takeFenceCause c i).admissions = s.admissions ∧
    (s.takeFenceCause c i).slots = s.slots ∧ (s.takeFenceCause c i).freeCount = s.freeCount := by
  unfold State.takeFenceCause; (try dsimp only); (repeat' split) <;> simp

@[simp] theorem dropFenceCause_keeps (s : State) (c : FenceCause) :
    (s.dropFenceCause c).pending = s.pending ∧ (s.dropFenceCause c).guardTime = s.guardTime ∧
    (s.dropFenceCause c).phase = s.phase ∧ (s.dropFenceCause c).startKind = s.startKind ∧
    (s.dropFenceCause c).pins = s.pins ∧ (s.dropFenceCause c).loader = s.loader ∧
    (s.dropFenceCause c).config = s.config ∧ (s.dropFenceCause c).bus = s.bus ∧
    (s.dropFenceCause c).membership = s.membership ∧ (s.dropFenceCause c).admissions = s.admissions ∧
    (s.dropFenceCause c).slots = s.slots ∧ (s.dropFenceCause c).hold = s.hold ∧
    (s.dropFenceCause c).memory = s.memory ∧ (s.dropFenceCause c).delivery = s.delivery ∧
    (s.dropFenceCause c).link = s.link ∧ (s.dropFenceCause c).trail = s.trail ∧
    (s.dropFenceCause c).freeCount = s.freeCount := by simp [State.dropFenceCause]

@[simp] theorem handClaimChange_keeps (s : State) (i : ClaimId) (c : Option StopCause) (r : Byte) :
    (s.handClaimChange i c r).pending = s.pending ∧ (s.handClaimChange i c r).guardTime = s.guardTime ∧
    (s.handClaimChange i c r).phase = s.phase ∧ (s.handClaimChange i c r).startKind = s.startKind ∧
    (s.handClaimChange i c r).pins = s.pins ∧ (s.handClaimChange i c r).loader = s.loader ∧
    (s.handClaimChange i c r).config = s.config ∧ (s.handClaimChange i c r).membership = s.membership ∧
    (s.handClaimChange i c r).admissions = s.admissions ∧ (s.handClaimChange i c r).slots = s.slots ∧
    (s.handClaimChange i c r).freeCount = s.freeCount := by
  unfold State.handClaimChange; (try dsimp only); (repeat' split) <;> simp

@[simp] theorem reportClaim_keeps (s : State) (r : Record) (p : Sponsor) (st b : Byte) :
    (s.reportClaim r p st b).pending = s.pending ∧ (s.reportClaim r p st b).guardTime = s.guardTime ∧
    (s.reportClaim r p st b).phase = s.phase ∧ (s.reportClaim r p st b).startKind = s.startKind ∧
    (s.reportClaim r p st b).pins = s.pins ∧ (s.reportClaim r p st b).loader = s.loader ∧
    (s.reportClaim r p st b).config = s.config ∧ (s.reportClaim r p st b).membership = s.membership ∧
    (s.reportClaim r p st b).admissions = s.admissions ∧ (s.reportClaim r p st b).slots = s.slots ∧
    (s.reportClaim r p st b).hold = s.hold ∧ (s.reportClaim r p st b).memory = s.memory ∧
    (s.reportClaim r p st b).delivery = s.delivery ∧ (s.reportClaim r p st b).fence = s.fence ∧
    (s.reportClaim r p st b).link = s.link ∧ (s.reportClaim r p st b).freeCount = s.freeCount := by simp [State.reportClaim]

@[simp] theorem decideClaim_keeps (s : State) (i : ClaimId) (o : VerdictOutcome) (b : Byte) :
    (s.decideClaim i o b).pending = s.pending ∧ (s.decideClaim i o b).guardTime = s.guardTime ∧
    (s.decideClaim i o b).phase = s.phase ∧ (s.decideClaim i o b).startKind = s.startKind ∧
    (s.decideClaim i o b).pins = s.pins ∧ (s.decideClaim i o b).loader = s.loader ∧
    (s.decideClaim i o b).config = s.config ∧ (s.decideClaim i o b).admissions = s.admissions ∧
    (s.decideClaim i o b).slots = s.slots ∧ (s.decideClaim i o b).memory = s.memory ∧
    (s.decideClaim i o b).delivery = s.delivery ∧ (s.decideClaim i o b).fence = s.fence ∧
    (s.decideClaim i o b).link = s.link ∧ (s.decideClaim i o b).freeCount = s.freeCount := by simp [State.decideClaim]

@[simp] theorem decideEnd_keeps (s : State) (i : ClaimId) (b : Byte) :
    (s.decideEnd i b).pending = s.pending ∧ (s.decideEnd i b).guardTime = s.guardTime ∧
    (s.decideEnd i b).phase = s.phase ∧ (s.decideEnd i b).startKind = s.startKind ∧
    (s.decideEnd i b).pins = s.pins ∧ (s.decideEnd i b).loader = s.loader ∧
    (s.decideEnd i b).config = s.config ∧ (s.decideEnd i b).admissions = s.admissions ∧
    (s.decideEnd i b).slots = s.slots ∧ (s.decideEnd i b).memory = s.memory ∧
    (s.decideEnd i b).delivery = s.delivery ∧ (s.decideEnd i b).fence = s.fence ∧
    (s.decideEnd i b).link = s.link ∧ (s.decideEnd i b).freeCount = s.freeCount := by
  unfold State.decideEnd; (try dsimp only); (repeat' split) <;> simp

@[simp] theorem reportEnding_keeps (s : State) (r : Record) (p : Sponsor) (b : Byte) :
    (s.reportEnding r p b).pending = s.pending ∧ (s.reportEnding r p b).guardTime = s.guardTime ∧
    (s.reportEnding r p b).phase = s.phase ∧ (s.reportEnding r p b).startKind = s.startKind ∧
    (s.reportEnding r p b).pins = s.pins ∧ (s.reportEnding r p b).loader = s.loader ∧
    (s.reportEnding r p b).config = s.config ∧ (s.reportEnding r p b).membership = s.membership ∧
    (s.reportEnding r p b).admissions = s.admissions ∧ (s.reportEnding r p b).slots = s.slots ∧
    (s.reportEnding r p b).freeCount = s.freeCount := by simp [State.reportEnding]

@[simp] theorem endRecord_keeps (s : State) (r : Record) (b : Byte) :
    (s.endRecord r b).pending = s.pending ∧ (s.endRecord r b).guardTime = s.guardTime ∧
    (s.endRecord r b).phase = s.phase ∧ (s.endRecord r b).startKind = s.startKind ∧
    (s.endRecord r b).pins = s.pins ∧ (s.endRecord r b).loader = s.loader ∧
    (s.endRecord r b).config = s.config ∧ (s.endRecord r b).membership = s.membership ∧
    (s.endRecord r b).admissions = s.admissions ∧ (s.endRecord r b).slots = s.slots ∧
    (s.endRecord r b).freeCount = s.freeCount := by
  unfold State.endRecord; (try dsimp only); (repeat' split) <;> simp

@[simp] theorem clearRecords_keeps (s : State) (d : Domain) (b : Byte) :
    (s.clearRecords d b).pending = s.pending ∧ (s.clearRecords d b).guardTime = s.guardTime ∧
    (s.clearRecords d b).phase = s.phase ∧ (s.clearRecords d b).startKind = s.startKind ∧
    (s.clearRecords d b).pins = s.pins ∧ (s.clearRecords d b).loader = s.loader ∧
    (s.clearRecords d b).config = s.config ∧ (s.clearRecords d b).membership = s.membership ∧
    (s.clearRecords d b).admissions = s.admissions ∧ (s.clearRecords d b).slots = s.slots ∧
    (s.clearRecords d b).freeCount = s.freeCount := ⟨
  (foldl_keeps State.pending _ (fun _ _ => by simp) _ _).trans (by simp),
  (foldl_keeps State.guardTime _ (fun _ _ => by simp) _ _).trans (by simp),
  (foldl_keeps State.phase _ (fun _ _ => by simp) _ _).trans (by simp),
  (foldl_keeps State.startKind _ (fun _ _ => by simp) _ _).trans (by simp),
  (foldl_keeps State.pins _ (fun _ _ => by simp) _ _).trans (by simp),
  (foldl_keeps State.loader _ (fun _ _ => by simp) _ _).trans (by simp),
  (foldl_keeps State.config _ (fun _ _ => by simp) _ _).trans (by simp),
  (foldl_keeps State.membership _ (fun _ _ => by simp) _ _).trans (by simp),
  (foldl_keeps State.admissions _ (fun _ _ => by simp) _ _).trans (by simp),
  (foldl_keeps State.slots _ (fun _ _ => by simp) _ _).trans (by simp),
  (foldl_keeps State.freeCount _ (fun _ _ => by simp) _ _).trans (by simp)⟩

@[simp] theorem reportRefusal_keeps (s : State) (r : Record) (p : Sponsor) (b : Byte) (i : Option ClaimId) :
    (s.reportRefusal r p b i).pending = s.pending ∧ (s.reportRefusal r p b i).guardTime = s.guardTime ∧
    (s.reportRefusal r p b i).phase = s.phase ∧ (s.reportRefusal r p b i).startKind = s.startKind ∧
    (s.reportRefusal r p b i).pins = s.pins ∧ (s.reportRefusal r p b i).loader = s.loader ∧
    (s.reportRefusal r p b i).config = s.config ∧ (s.reportRefusal r p b i).membership = s.membership ∧
    (s.reportRefusal r p b i).admissions = s.admissions ∧ (s.reportRefusal r p b i).slots = s.slots ∧
    (s.reportRefusal r p b i).freeCount = s.freeCount := by simp [State.reportRefusal]

@[simp] theorem reportNotResumed_keeps (s : State) (r : Record) (p : Sponsor) (b : Byte) :
    (s.reportNotResumed r p b).pending = s.pending ∧ (s.reportNotResumed r p b).guardTime = s.guardTime ∧
    (s.reportNotResumed r p b).phase = s.phase ∧ (s.reportNotResumed r p b).startKind = s.startKind ∧
    (s.reportNotResumed r p b).pins = s.pins ∧ (s.reportNotResumed r p b).loader = s.loader ∧
    (s.reportNotResumed r p b).config = s.config ∧ (s.reportNotResumed r p b).membership = s.membership ∧
    (s.reportNotResumed r p b).admissions = s.admissions ∧ (s.reportNotResumed r p b).slots = s.slots ∧
    (s.reportNotResumed r p b).hold = s.hold ∧ (s.reportNotResumed r p b).memory = s.memory ∧
    (s.reportNotResumed r p b).delivery = s.delivery ∧ (s.reportNotResumed r p b).fence = s.fence ∧
    (s.reportNotResumed r p b).link = s.link ∧ (s.reportNotResumed r p b).freeCount = s.freeCount := by simp [State.reportNotResumed]

end Sys2Proof.Machine.State
end

