-- ==== Sys2Proof/Laws/Passages.lean ====
section
/-!
SUPPORT. What a passage is under the hypotheses of the statements: with a frame of its kind at the head
of the receive FIFO, the block's rule runs on the state that the frame has left.
-/

namespace Sys2Proof.Machine

/-- A kind read back from its code. -/
@[simp] theorem FrameKind.ofCode_code (k : FrameKind) : FrameKind.ofCode k.code = some k := by
  cases k <;> rfl

/-- A tester read back from its address. -/
@[simp] theorem testerOf_testerAddress (t : Tester) : testerOf (testerAddress t) = some t := by
  revert t; decide

/-- A guard's domain read back from its address. -/
@[simp] theorem domainOf_guardAddress (d : Domain) : domainOf (guardAddress d) = some d := by
  revert d; decide

theorem State.head_of_running (s : State) (e : RxEntry) (rest : List RxEntry)
    (hp : s.phase = .running) (hf : s.bus.rxFifo = e :: rest) : s.head = some e := by
  simp [State.head, hp, hf]

theorem not_tooShort {k : FrameKind} {f : Frame} (h : k.minLength ≤ f.payload.length) :
    f.tooShort k = false := by
  simp [Frame.tooShort]; omega

/-- A tester frame's passage under its hypothesis runs the rule on the state after the head. -/
theorem State.testerPassage_of_head {s : State} {k : FrameKind} {t : Tester} {p : List Byte}
    {rest : List RxEntry} (h : s.testerHead k t p rest) (row : List Byte → Bool) (hr : row p = true)
    (act : Tester → List Byte → State → State) :
    s.testerPassage k row act = act t p (s.afterTesterHead t) := by
  obtain ⟨hp, hl, e, hf, he, hk, hs, ht, hpay⟩ := h
  subst hpay
  simp [State.testerPassage, State.head_of_running s e rest hp hf, testerSender, he, Frame.kind?, hk,
    hs, ht, hr, not_tooShort hl, State.afterTesterHead]

/-- The same for a kind with one row. -/
theorem State.testerPassage_every {s : State} {k : FrameKind} {t : Tester} {p : List Byte}
    {rest : List RxEntry} (h : s.testerHead k t p rest) (act : Tester → List Byte → State → State) :
    s.testerPassage k everyPayload act = act t p (s.afterTesterHead t) :=
  State.testerPassage_of_head h everyPayload rfl act

/-- A guard-to-guard frame's passage under its hypothesis runs the rule with its sender. -/
theorem State.guardPassage_of_head {s : State} {k : FrameKind} {echo : Bool} {d : Domain}
    {p : List Byte} {rest : List RxEntry} (h : s.guardHead k echo d p rest) :
    ∃ e : RxEntry, e.echo = echo ∧ e.frame.payload = p ∧ e.frame.kind? = some k ∧
      s.bus.rxFifo = e :: rest ∧
      ∀ (row : RxEntry → Bool) (act : Domain → RxEntry → State → State), row e = true →
        s.guardPassage k row act = act d e s.popHead := by
  obtain ⟨hp, hl, e, hf, he, hk, hs, hpay⟩ := h
  subst hpay
  refine ⟨e, he, rfl, by simp [Frame.kind?, hk], hf, fun row act hr => ?_⟩
  simp [State.guardPassage, State.head_of_running s e rest hp hf, hs, Frame.kind?, hk, hr,
    not_tooShort hl]

namespace State

variable (s : State) (t : Tester)

/-- Only the FIFO and the admission table change as a tester's frame leaves the FIFO. -/
@[simp] theorem afterTesterHead_keeps :
    (s.afterTesterHead t).pending = s.pending ∧ (s.afterTesterHead t).guardTime = s.guardTime ∧
    (s.afterTesterHead t).phase = s.phase ∧ (s.afterTesterHead t).startKind = s.startKind ∧
    (s.afterTesterHead t).pins = s.pins ∧ (s.afterTesterHead t).loader = s.loader ∧
    (s.afterTesterHead t).config = s.config ∧ (s.afterTesterHead t).membership = s.membership ∧
    (s.afterTesterHead t).slots = s.slots ∧ (s.afterTesterHead t).hold = s.hold ∧
    (s.afterTesterHead t).memory = s.memory ∧ (s.afterTesterHead t).delivery = s.delivery ∧
    (s.afterTesterHead t).fence = s.fence ∧ (s.afterTesterHead t).link = s.link ∧
    (s.afterTesterHead t).trail = s.trail ∧ (s.afterTesterHead t).freeCount = s.freeCount ∧
    (s.afterTesterHead t).bus = { s.bus with rxFifo := s.bus.rxFifo.tail } := by
  simp [State.afterTesterHead, State.popHead]

/-- A quiet refresh restarts the quiet timer and keeps the rest of every ticket. -/
theorem quietRefresh_ticket (u : Tester) :
    (s.quietRefresh t).ticket u =
      if u = t then (s.ticket t).map fun k =>
        { k with quiet := s.startTimer (1000 * s.config.timing.testerQuiet) }
      else s.ticket u := by
  unfold State.quietRefresh State.ticket
  rcases h : s.admissions[t] with ⟨_ | k, e⟩
  · by_cases hu : u = t
    · subst hu; simp [h]
    · simp [hu]
  · by_cases hu : u = t
    · subst hu; simp
    · have : (t : Fin 14).val ≠ u.val := fun hh => hu (Fin.ext hh.symm)
      simp [hu, State.setAdmission, this]

@[simp] theorem popHead_ticket : s.popHead.ticket t = s.ticket t := rfl

/-- A tester's frame leaves admissions, grants and claim standings as they are. -/
@[simp] theorem afterTesterHead_admitted (u : Tester) :
    (s.afterTesterHead t).admitted u = s.admitted u := by
  unfold State.admitted State.afterTesterHead
  rw [quietRefresh_ticket]
  split
  · subst_vars; simp
  · simp

@[simp] theorem afterTesterHead_grants (u : Tester) (c : Sys2Proof.Class) :
    (s.afterTesterHead t).grants u c = s.grants u c := by
  have h := s.popHead.quietRefresh_ticket t u
  unfold State.grants State.afterTesterHead
  rw [h]
  by_cases hu : u = t
  · subst hu; simp only [if_pos, popHead_ticket]; cases s.ticket u <;> rfl
  · simp [hu]

@[simp] theorem afterTesterHead_record? (id : ClaimId) :
    (s.afterTesterHead t).record? id = s.record? id := by simp [State.record?]

@[simp] theorem afterTesterHead_standing (id : ClaimId) :
    (s.afterTesterHead t).standing id = s.standing id := by simp [State.standing]

@[simp] theorem afterTesterHead_conditionsMet (c : Sys2Proof.Class) :
    (s.afterTesterHead t).conditionsMet c = s.conditionsMet c := by simp [State.conditionsMet]

end State

/-- A record found by its id has that id. -/
theorem State.record?_id {s : State} {id : ClaimId} {r : Record} (h : s.record? id = some r) :
    r.id = id := by
  have := List.find?_some h
  simpa using this

/-- A claim standing here is a record of the view with its sponsor part. -/
theorem State.standing_here {s : State} {id : ClaimId} {r : Record} {q : Sponsor} :
    s.standing id = .here r q ↔ s.record? id = some r ∧ r.sponsor = some q := by
  unfold State.standing
  cases s.record? id with
  | none => simp
  | some x =>
    rcases x with ⟨xi, xt, xc, xs, xst, xp, xo, xco, xh, xb, xca, _ | y⟩
    · constructor
      · intro h; cases h
      · rintro ⟨h, h'⟩; cases h; cases h'
    · constructor
      · intro h; cases h; exact ⟨rfl, rfl⟩
      · rintro ⟨h, h'⟩; cases h; cases h'; rfl

end Sys2Proof.Machine
end

