-- ==== Sys2Proof/Laws/Effects.lean ====
section
/-!
SUPPORT. What the shared operations can do, said once: the cases of a passage, an expiry and a link
command, and the effect of an operation on the fields it touches.
-/

namespace Sys2Proof.Machine

/-! ## The cases of a command's frame -/

/-- A guard-to-guard passage leaves the state, drops and counts the head, or runs its rule on it. -/
theorem State.guardPassage_cases (s : State) (k : FrameKind) (row : RxEntry → Bool)
    (act : Domain → RxEntry → State → State) :
    s.guardPassage k row act = s ∨
    s.guardPassage k row act = s.popHead.count Counter.foreignFrames ∨
    ∃ d e rest, s.phase = .running ∧ s.bus.rxFifo = e :: rest ∧ e.frame.kind? = some k ∧
      guardSender s.config e.frame = some d ∧ row e = true ∧ k.minLength ≤ e.frame.payload.length ∧
      s.guardPassage k row act = act d e s.popHead := by
  unfold State.guardPassage State.head
  by_cases hp : s.phase = .running
  · rcases hf : s.bus.rxFifo with _ | ⟨e, rest⟩
    · left; simp [hp]
    · simp only [hp, if_true, List.head?_cons]
      rcases hs : guardSender s.config e.frame with _ | d
      · left; rfl
      · by_cases hk : e.frame.kind? = some k ∧ row e = true
        · simp only [hk, decide_true, Bool.and_self, if_true]
          rcases ht : e.frame.tooShort k with _ | _
          · right; right
            exact ⟨d, e, rest, trivial, rfl, hk.1, hs, hk.2, by simpa [Frame.tooShort] using ht, rfl⟩
          · right; left; rfl
        · left
          have : (decide (e.frame.kind? = some k) && row e) = false := by
            rw [Bool.eq_false_iff]; simpa using hk
          simp [this]
  · left; simp [hp]

/-- A tester frame's passage leaves the state, drops and counts the head after its quiet refresh, or
runs its rule after it. -/
theorem State.testerPassage_cases (s : State) (k : FrameKind) (row : List Byte → Bool)
    (act : Tester → List Byte → State → State) :
    s.testerPassage k row act = s ∨
    (∃ t, s.testerPassage k row act = (s.afterTesterHead t).count Counter.foreignFrames) ∨
    ∃ t e rest, s.phase = .running ∧ s.bus.rxFifo = e :: rest ∧ testerSender s.config k e = some t ∧
      row e.frame.payload = true ∧ k.minLength ≤ e.frame.payload.length ∧
      s.testerPassage k row act = act t e.frame.payload (s.afterTesterHead t) := by
  unfold State.testerPassage State.head
  by_cases hp : s.phase = .running
  · rcases hf : s.bus.rxFifo with _ | ⟨e, rest⟩
    · left; simp [hp]
    · simp only [hp, if_true, List.head?_cons]
      rcases hs : testerSender s.config k e with _ | t
      · left; rfl
      · rcases hr : row e.frame.payload with _ | _
        · left; simp
        · simp only [if_true]
          rcases ht : e.frame.tooShort k with _ | _
          · right; right
            exact ⟨t, e, rest, trivial, rfl, hs, hr, by simpa [Frame.tooShort] using ht, rfl⟩
          · right; left; exact ⟨t, rfl⟩
  · left; simp [hp]

/-- An expiry leaves the state, or runs its effect at the moment of the running timer's expiry. -/
theorem State.expire_cases (s : State) (timer : Option Timer) (act : State → State) :
    s.expire timer act = s ∨
    ∃ t, s.phase = .running ∧ timer = some t ∧ s.soonest t = true ∧
      s.expire timer act = act (s.reachDue t) := by
  unfold State.expire
  split
  · rename_i u h
    by_cases hs : s.soonest u = true
    · exact Or.inr ⟨u, h, rfl, hs, if_pos hs⟩
    · exact Or.inl (if_neg hs)
  · exact Or.inl rfl

/-- The expiry of a running timer that ends no later than any other runs its effect. -/
theorem State.expire_soonest {s : State} {t : Timer} (act : State → State) (hp : s.phase = .running)
    (hs : s.soonest t = true) : s.expire (some t) act = act (s.reachDue t) := by
  simp [State.expire, hp, hs]

/-- A timer ends soonest when none that runs has less time left. -/
theorem State.soonest_iff (s : State) (t : Timer) : s.soonest t = true ↔
    ∀ x ∈ s.runningTimers, t.remaining s.guardTime ≤ x.2.remaining s.guardTime := by
  simp [State.soonest]

/-- A timer has no time left just when guard time has reached its end. -/
theorem Timer.remaining_eq_zero (now : Time) (t : Timer) :
    t.remaining now = 0 ↔ t.length ≤ t.elapsed now := by
  simp [Timer.remaining, Nat.sub_eq_zero_iff_le]

/-- A due expiry is that of a running timer whose end guard time has reached. -/
theorem State.dueExpiry_some {s : State} {c : Instr} (h : s.dueExpiry = some c) :
    ∃ t, (c, t) ∈ s.runningTimers ∧ t.length ≤ t.elapsed s.guardTime := by
  simp only [State.dueExpiry, Option.map_eq_some_iff] at h
  obtain ⟨⟨c, t⟩, hx, rfl⟩ := h
  exact ⟨t, List.mem_of_find?_eq_some hx,
    (Timer.remaining_eq_zero _ _).mp (by simpa using List.find?_some hx)⟩

/-- No expiry is due just when every running timer has time left. -/
theorem State.dueExpiry_none (s : State) : s.dueExpiry = none ↔
    ∀ x ∈ s.runningTimers, x.2.elapsed s.guardTime < x.2.length := by
  simp [State.dueExpiry, Timer.remaining, Nat.sub_eq_zero_iff_le]

/-- A timer that may run is in the list just when it runs. -/
theorem mem_timerOf {c d : Instr} {t : Timer} {o : Option Timer} :
    (c, t) ∈ timerOf d o ↔ c = d ∧ o = some t := by
  cases o <;> simp [timerOf, eq_comm, and_comm]

/-- Which timers run while the image is accepted. -/
theorem State.runningTimers_running {s : State} (h : s.phase = .running) :
    s.runningTimers =
      allTesters.flatMap s.testerTimers ++ s.serviceTimers ++ s.hold.view.flatMap Record.timers := by
  simp [State.runningTimers, h]

/-- Which timer runs while STARTING. -/
theorem State.runningTimers_starting {s : State} (h : s.phase = .starting) (x : Instr × Timer) :
    x ∈ s.runningTimers ↔ x.1 = .loaderRetryWaitExpiry ∧ ∃ n, s.loader = .waiting n x.2 := by
  obtain ⟨c, t⟩ := x
  cases hl : s.loader <;> simp [State.runningTimers, h, hl]
  tauto

/-- What a step does by the queue. -/
theorem step_cases (s : State) :
    (∃ c rest, s.pending = c :: rest ∧ step s = exec c { s with pending := rest }) ∨
    (∃ c, s.pending = [] ∧ s.dueExpiry = some c ∧ step s = exec c s) ∨
    (s.pending = [] ∧ s.dueExpiry = none ∧ step s = .next s.tick) := by
  unfold step
  split
  · rename_i h
    split
    · rename_i c hd; exact Or.inr (Or.inl ⟨c, h, hd, rfl⟩)
    · rename_i hd; exact Or.inr (Or.inr ⟨h, hd, rfl⟩)
  · rename_i c rest h; exact Or.inl ⟨c, rest, h, rfl⟩

/-- A link command leaves the state, is NOT_READY, or is judged under its own rule. -/
theorem State.takeCommand_cases (s : State) (act : State → State) :
    s.takeCommand act = s ∨ s.takeCommand act = s.respond .notReady [] ∨
    (s.phase = .running ∧ s.takeCommand act = act s) := by
  unfold State.takeCommand
  cases s.phase <;> simp

/-! ## The effect on the fields an operation touches -/

/-- A change that keeps ids acts on the record of its id alone. -/
theorem State.updateRecord_record? (s : State) (id : ClaimId) (f : Record → Record)
    (hf : ∀ r, (f r).id = r.id) : (s.updateRecord id f).record? id = (s.record? id).map f := by
  simp only [State.updateRecord, State.record?, State.onHold, Hold.updateRecord]
  induction s.hold.view with
  | nil => rfl
  | cons x xs ih =>
    simp only [List.map_cons, List.find?_cons]
    by_cases h : x.id = id
    · simp [h, hf]
    · have : (x.id == id) = false := by simpa using h
      simp [h, this, ih]

/-- A change of a sponsor part changes no replicated field. -/
theorem State.updateSponsor_replicated (s : State) (id : ClaimId) (f : Sponsor → Sponsor) :
    (s.updateSponsor id f).hold.view.map Record.replicated = s.hold.view.map Record.replicated := by
  simp only [State.updateSponsor, State.updateRecord, State.onHold, Hold.updateRecord, List.map_map]
  apply List.map_congr_left
  intro r _
  simp only [Function.comp]
  split <;> rfl

/-- Deciding an end changes no replicated field. -/
theorem State.decideEnd_replicated (s : State) (id : ClaimId) (b : Byte) :
    (s.decideEnd id b).hold.view.map Record.replicated = s.hold.view.map Record.replicated := by
  unfold State.decideEnd
  split
  · split
    · rfl
    · simp [State.updateSponsor_replicated]
  · rfl

/-- Offering REVOKE_DOMAIN posts nothing. -/
theorem State.offerRevoke_entries (s : State) (r : ClearReason) :
    (s.offerRevoke r).trail.entries = s.trail.entries := by
  unfold State.offerRevoke
  split
  · rfl
  · split
    · rfl
    · split <;> rfl

/-- A loss event posts nothing. -/
theorem State.lossEvent_entries (s : State) : s.lossEvent.trail.entries = s.trail.entries := by
  unfold State.lossEvent
  split <;> try rfl
  dsimp only
  split
  · rfl
  · rw [State.offerRevoke_entries]; rfl

/-- An offered protocol frame posts nothing. -/
theorem State.offerProtocol_entries (s : State) (k : FrameKind) (p : List Byte) :
    (s.offerProtocol k p).trail.entries = s.trail.entries := by
  unfold State.offerProtocol
  split
  · rfl
  · split
    · rw [State.lossEvent_entries]; rfl
    · rfl

/-- An offered status frame posts nothing. -/
theorem State.offerStatus_entries (s : State) (k : FrameKind) (t : Tester) (p : List Byte) :
    (s.offerStatus k t p).trail.entries = s.trail.entries := by
  unfold State.offerStatus
  split <;> rfl

/-- An order that ends changes nothing of its request but the orphaned mark (R59, R161). -/
@[simp] theorem StopOrder.release_keeps (o : StopOrder) (v : Service) :
    (o.release v).tester = v.tester ∧ (o.release v).tag = v.tag ∧ (o.release v).cls = v.cls ∧
    (o.release v).claim = v.claim ∧ (o.release v).data = v.data ∧ (o.release v).limit = v.limit ∧
    (o.release v).interims = v.interims ∧ (o.release v).staged = v.staged := by simp [StopOrder.release]

@[simp] theorem StopOrder.release_orphaned (o : StopOrder) (v : Service) :
    (o.release v).orphaned = (v.orphaned || o.testerGone) := rfl

/-- Leaving the slot does not depend on the orphaned mark. -/
@[simp] theorem State.leaveSlot_release (s : State) (o : StopOrder) (v : Service) :
    s.leaveSlot (o.release v) = s.leaveSlot v := rfl

@[simp] theorem StopOrder.orphan_keeps (t : Tester) (o : StopOrder) :
    (o.orphan t).tester = o.tester ∧ (o.orphan t).tag = o.tag ∧ (o.orphan t).claim = o.claim ∧
    (o.orphan t).cls = o.cls ∧ (o.orphan t).cause = o.cause ∧ (o.orphan t).limit = o.limit := by
  unfold StopOrder.orphan; split <;> simp

/-- The marking of R59 under a stop order goes to the order, else to the request (log entry 33). -/
theorem State.orphanService_effect (s : State) (t : Tester) :
    (s.orphanService t).fence = { s.fence with stop := s.fence.stop.map (StopOrder.orphan t) } ∧
    (s.orphanService t).delivery.queue = s.delivery.queue ∧
    (s.orphanService t).delivery.service =
      if s.fence.stop.isSome then s.delivery.service
      else s.delivery.service.map fun v => if v.tester = t then { v with orphaned := true } else v := by
  unfold State.orphanService
  cases h : s.fence.stop with
  | none =>
    refine ⟨?_, by simp [State.updateService], by simp [State.updateService]⟩
    simp only [State.updateService, State.onDelivery_fence, Option.map_none]
    rw [← h]
  | some o => simp

/-- A request leaving the service slot empties it and returns its blocks; the queue, the lanes and the
staged answers stand. -/
theorem State.leaveSlot_effect (s : State) (v : Service) :
    (s.leaveSlot v).delivery.service = none ∧ (s.leaveSlot v).delivery.queue = s.delivery.queue ∧
    (s.leaveSlot v).delivery.lastStamp = s.delivery.lastStamp ∧
    (s.leaveSlot v).memory.free = s.memory.free + v.blocks ∧
    (s.leaveSlot v).memory.lanes = s.memory.lanes ∧
    (s.leaveSlot v).memory.replies = s.memory.replies := by
  simp only [State.leaveSlot, State.emptySlot, Service.blocks]
  split <;> simp [State.freeBlocks, Nat.add_assoc]

/-- What becomes of a removed entry touches neither the delivery unit, nor the lanes, nor the staged
answers. -/
theorem State.entryGone_effect (s : State) (reason : Option Byte) (e : QueueEntry) :
    (s.entryGone reason e).delivery = s.delivery ∧
    (s.entryGone reason e).memory = { s.memory with free := s.memory.free + blocksFor e.data.length } := by
  cases reason <;> simp [State.entryGone, State.freeBlocks]

/-- Removing entries keeps the order of the others, and touches neither the service slot, nor the lanes,
nor the staged answers. -/
theorem State.removeEntries_effect (s : State) (p : QueueEntry → Bool) (reason : Option Byte) :
    (s.removeEntries p reason).delivery =
      { s.delivery with queue := s.delivery.queue.filter fun e => !p e } ∧
    (s.removeEntries p reason).memory.lanes = s.memory.lanes ∧
    (s.removeEntries p reason).memory.replies = s.memory.replies := by
  have fold : ∀ (l : List QueueEntry) (s : State),
      (l.foldl (fun s e => s.entryGone reason e) s).delivery = s.delivery ∧
      (l.foldl (fun s e => s.entryGone reason e) s).memory.lanes = s.memory.lanes ∧
      (l.foldl (fun s e => s.entryGone reason e) s).memory.replies = s.memory.replies := by
    intro l
    induction l with
    | nil => intro s; simp
    | cons e l ih =>
      intro s
      obtain ⟨h1, h2, h3⟩ := ih (s.entryGone reason e)
      simp [h1, h2, h3, s.entryGone_effect reason e]
  obtain ⟨h1, h2, h3⟩ := fold (s.delivery.queue.filter p)
    (s.onDelivery fun d => { d with queue := d.queue.filter fun e => !p e })
  unfold State.removeEntries
  rw [h1, h2, h3]
  exact ⟨rfl, rfl, rfl⟩

/-- Removals by a clearing frame leave the membership unit as it stands. -/
@[simp] theorem State.clearRecords_membership (s : State) (d : Domain) (b : Byte) :
    (s.clearRecords d b).membership = s.membership := by
  unfold State.clearRecords
  exact State.foldl_keeps (fun s => s.membership) _ (fun s a => by simp) _ s

end Sys2Proof.Machine
end

