-- ==== Sys2Proof/Laws/PerInstr.lean ====
section
/-!
SUPPORT. A statement for every command as syntax, one lemma a command: a command belongs to at most one
group (tester passages, guard-to-guard passages, timer expiries, link commands), and no word of the
table's bits spells it.
-/

namespace Sys2Proof.Laws.Groups

/-- How many of the four groups a command belongs to. -/
def groupsOf (c : Instr) : Nat :=
  (Machine.testerRow c).isSome.toNat + (Machine.guardRow c).isSome.toNat +
    (Machine.timerExpiry c).toNat + (Machine.linkRow c).toNat

/-- A command belongs to at most one group, and no word spells it. -/
def Statement (c : Instr) : Prop := groupsOf c ≤ 1 ∧ ∀ nbits w, decodeTableWord nbits w ≠ some c

theorem powerOn : Statement (.powerOn) :=
  ⟨Nat.le_of_ble_eq_true rfl, fun _ _ h => nomatch h⟩

theorem resetAsserted : Statement (.resetAsserted) :=
  ⟨Nat.le_of_ble_eq_true rfl, fun _ _ h => nomatch h⟩

theorem lineReset : Statement (.lineReset) :=
  ⟨Nat.le_of_ble_eq_true rfl, fun _ _ h => nomatch h⟩

theorem attemptFailed : Statement (.attemptFailed) :=
  ⟨Nat.le_of_ble_eq_true rfl, fun _ _ h => nomatch h⟩

theorem loaderRetryWaitExpiry : Statement (.loaderRetryWaitExpiry) :=
  ⟨Nat.le_of_ble_eq_true rfl, fun _ _ h => nomatch h⟩

theorem imageReadDone (bytes : List Byte) : Statement (.imageReadDone bytes) :=
  ⟨Nat.le_of_ble_eq_true rfl, fun _ _ h => nomatch h⟩

theorem fenceLineAssertion : Statement (.fenceLineAssertion) :=
  ⟨Nat.le_of_ble_eq_true rfl, fun _ _ h => nomatch h⟩

theorem fenceLineRelease : Statement (.fenceLineRelease) :=
  ⟨Nat.le_of_ble_eq_true rfl, fun _ _ h => nomatch h⟩

theorem frameReceived (frame : BusFrame) : Statement (.frameReceived frame) :=
  ⟨Nat.le_of_ble_eq_true rfl, fun _ _ h => nomatch h⟩

theorem echo : Statement (.echo) :=
  ⟨Nat.le_of_ble_eq_true rfl, fun _ _ h => nomatch h⟩

theorem arbitrationStart : Statement (.arbitrationStart) :=
  ⟨Nat.le_of_ble_eq_true rfl, fun _ _ h => nomatch h⟩

theorem arbitrationLost : Statement (.arbitrationLost) :=
  ⟨Nat.le_of_ble_eq_true rfl, fun _ _ h => nomatch h⟩

theorem transmitError : Statement (.transmitError) :=
  ⟨Nat.le_of_ble_eq_true rfl, fun _ _ h => nomatch h⟩

theorem receiveError : Statement (.receiveError) :=
  ⟨Nat.le_of_ble_eq_true rfl, fun _ _ h => nomatch h⟩

theorem busReturn : Statement (.busReturn) :=
  ⟨Nat.le_of_ble_eq_true rfl, fun _ _ h => nomatch h⟩

theorem waitingRevokeDomainJoins : Statement (.waitingRevokeDomainJoins) :=
  ⟨Nat.le_of_ble_eq_true rfl, fun _ _ h => nomatch h⟩

theorem replySegmenterOffer : Statement (.replySegmenterOffer) :=
  ⟨Nat.le_of_ble_eq_true rfl, fun _ _ h => nomatch h⟩

theorem ownJoinPassage : Statement (.ownJoinPassage) :=
  ⟨Nat.le_of_ble_eq_true rfl, fun _ _ h => nomatch h⟩

theorem peerJoinPassage : Statement (.peerJoinPassage) :=
  ⟨Nat.le_of_ble_eq_true rfl, fun _ _ h => nomatch h⟩

theorem presentPassage : Statement (.presentPassage) :=
  ⟨Nat.le_of_ble_eq_true rfl, fun _ _ h => nomatch h⟩

theorem ownRevokeDomainPassage : Statement (.ownRevokeDomainPassage) :=
  ⟨Nat.le_of_ble_eq_true rfl, fun _ _ h => nomatch h⟩

theorem peerRevokeDomainPassage : Statement (.peerRevokeDomainPassage) :=
  ⟨Nat.le_of_ble_eq_true rfl, fun _ _ h => nomatch h⟩

theorem announceNewPassage : Statement (.announceNewPassage) :=
  ⟨Nat.le_of_ble_eq_true rfl, fun _ _ h => nomatch h⟩

theorem announceResumePassage : Statement (.announceResumePassage) :=
  ⟨Nat.le_of_ble_eq_true rfl, fun _ _ h => nomatch h⟩

theorem consentPassage : Statement (.consentPassage) :=
  ⟨Nat.le_of_ble_eq_true rfl, fun _ _ h => nomatch h⟩

theorem objectPassage : Statement (.objectPassage) :=
  ⟨Nat.le_of_ble_eq_true rfl, fun _ _ h => nomatch h⟩

theorem verdictGranted : Statement (.verdictGranted) :=
  ⟨Nat.le_of_ble_eq_true rfl, fun _ _ h => nomatch h⟩

theorem verdictResumed : Statement (.verdictResumed) :=
  ⟨Nat.le_of_ble_eq_true rfl, fun _ _ h => nomatch h⟩

theorem verdictRefused : Statement (.verdictRefused) :=
  ⟨Nat.le_of_ble_eq_true rfl, fun _ _ h => nomatch h⟩

theorem verdictLapsed : Statement (.verdictLapsed) :=
  ⟨Nat.le_of_ble_eq_true rfl, fun _ _ h => nomatch h⟩

theorem cancelPassage : Statement (.cancelPassage) :=
  ⟨Nat.le_of_ble_eq_true rfl, fun _ _ h => nomatch h⟩

theorem breakPassage : Statement (.breakPassage) :=
  ⟨Nat.le_of_ble_eq_true rfl, fun _ _ h => nomatch h⟩

theorem endPassage : Statement (.endPassage) :=
  ⟨Nat.le_of_ble_eq_true rfl, fun _ _ h => nomatch h⟩

theorem admitPassage : Statement (.admitPassage) :=
  ⟨Nat.le_of_ble_eq_true rfl, fun _ _ h => nomatch h⟩

theorem leavePassage : Statement (.leavePassage) :=
  ⟨Nat.le_of_ble_eq_true rfl, fun _ _ h => nomatch h⟩

theorem claimPassage : Statement (.claimPassage) :=
  ⟨Nat.le_of_ble_eq_true rfl, fun _ _ h => nomatch h⟩

theorem renewPassage : Statement (.renewPassage) :=
  ⟨Nat.le_of_ble_eq_true rfl, fun _ _ h => nomatch h⟩

theorem releasePassage : Statement (.releasePassage) :=
  ⟨Nat.le_of_ble_eq_true rfl, fun _ _ h => nomatch h⟩

theorem resumePassage : Statement (.resumePassage) :=
  ⟨Nat.le_of_ble_eq_true rfl, fun _ _ h => nomatch h⟩

theorem continuePassage : Statement (.continuePassage) :=
  ⟨Nat.le_of_ble_eq_true rfl, fun _ _ h => nomatch h⟩

theorem abortReqPassage : Statement (.abortReqPassage) :=
  ⟨Nat.le_of_ble_eq_true rfl, fun _ _ h => nomatch h⟩

theorem fenceFramePassage : Statement (.fenceFramePassage) :=
  ⟨Nat.le_of_ble_eq_true rfl, fun _ _ h => nomatch h⟩

theorem liftPassage : Statement (.liftPassage) :=
  ⟨Nat.le_of_ble_eq_true rfl, fun _ _ h => nomatch h⟩

theorem reqFirstPassage : Statement (.reqFirstPassage) :=
  ⟨Nat.le_of_ble_eq_true rfl, fun _ _ h => nomatch h⟩

theorem reqNextPassage : Statement (.reqNextPassage) :=
  ⟨Nat.le_of_ble_eq_true rfl, fun _ _ h => nomatch h⟩

theorem answerSegmentEcho : Statement (.answerSegmentEcho) :=
  ⟨Nat.le_of_ble_eq_true rfl, fun _ _ h => nomatch h⟩

theorem statusFrameEcho : Statement (.statusFrameEcho) :=
  ⟨Nat.le_of_ble_eq_true rfl, fun _ _ h => nomatch h⟩

theorem refreshOnlyPassage : Statement (.refreshOnlyPassage) :=
  ⟨Nat.le_of_ble_eq_true rfl, fun _ _ h => nomatch h⟩

theorem queryStatus : Statement (.queryStatus) :=
  ⟨Nat.le_of_ble_eq_true rfl, fun _ _ h => nomatch h⟩

theorem queryIncidents : Statement (.queryIncidents) :=
  ⟨Nat.le_of_ble_eq_true rfl, fun _ _ h => nomatch h⟩

theorem queryView : Statement (.queryView) :=
  ⟨Nat.le_of_ble_eq_true rfl, fun _ _ h => nomatch h⟩

theorem queryRoster : Statement (.queryRoster) :=
  ⟨Nat.le_of_ble_eq_true rfl, fun _ _ h => nomatch h⟩

theorem queryTrail : Statement (.queryTrail) :=
  ⟨Nat.le_of_ble_eq_true rfl, fun _ _ h => nomatch h⟩

theorem queryThaw : Statement (.queryThaw) :=
  ⟨Nat.le_of_ble_eq_true rfl, fun _ _ h => nomatch h⟩

theorem queryCounters : Statement (.queryCounters) :=
  ⟨Nat.le_of_ble_eq_true rfl, fun _ _ h => nomatch h⟩

theorem queryCapture : Statement (.queryCapture) :=
  ⟨Nat.le_of_ble_eq_true rfl, fun _ _ h => nomatch h⟩

theorem validityTimerExpiry (tester : Tester) : Statement (.validityTimerExpiry tester) :=
  ⟨Nat.le_of_ble_eq_true rfl, fun _ _ h => nomatch h⟩

theorem quietTimerExpiry (tester : Tester) : Statement (.quietTimerExpiry tester) :=
  ⟨Nat.le_of_ble_eq_true rfl, fun _ _ h => nomatch h⟩

theorem gapTimerExpiry (tester : Tester) : Statement (.gapTimerExpiry tester) :=
  ⟨Nat.le_of_ble_eq_true rfl, fun _ _ h => nomatch h⟩

theorem queueWaitExpiry (tester : Tester) (tag : Byte) : Statement (.queueWaitExpiry tester tag) :=
  ⟨Nat.le_of_ble_eq_true rfl, fun _ _ h => nomatch h⟩

theorem serviceLimitExpiry : Statement (.serviceLimitExpiry) :=
  ⟨Nat.le_of_ble_eq_true rfl, fun _ _ h => nomatch h⟩

theorem stopLimitExpiry : Statement (.stopLimitExpiry) :=
  ⟨Nat.le_of_ble_eq_true rfl, fun _ _ h => nomatch h⟩

theorem windowTimerExpiry (claim : ClaimId) : Statement (.windowTimerExpiry claim) :=
  ⟨Nat.le_of_ble_eq_true rfl, fun _ _ h => nomatch h⟩

theorem holdTimerExpiry (claim : ClaimId) : Statement (.holdTimerExpiry claim) :=
  ⟨Nat.le_of_ble_eq_true rfl, fun _ _ h => nomatch h⟩

theorem leaseTimerExpiry (claim : ClaimId) : Statement (.leaseTimerExpiry claim) :=
  ⟨Nat.le_of_ble_eq_true rfl, fun _ _ h => nomatch h⟩

theorem transactionDiscarded : Statement (.transactionDiscarded) :=
  ⟨Nat.le_of_ble_eq_true rfl, fun _ _ h => nomatch h⟩

theorem take (data : List Byte) : Statement (.take data) :=
  ⟨Nat.le_of_ble_eq_true rfl, fun _ _ h => nomatch h⟩

theorem read (data : List Byte) : Statement (.read data) :=
  ⟨Nat.le_of_ble_eq_true rfl, fun _ _ h => nomatch h⟩

theorem postInterim (bytes : List Byte) : Statement (.postInterim bytes) :=
  ⟨Nat.le_of_ble_eq_true rfl, fun _ _ h => nomatch h⟩

theorem postPart (bytes : List Byte) : Statement (.postPart bytes) :=
  ⟨Nat.le_of_ble_eq_true rfl, fun _ _ h => nomatch h⟩

theorem postFinal (bytes : List Byte) : Statement (.postFinal bytes) :=
  ⟨Nat.le_of_ble_eq_true rfl, fun _ _ h => nomatch h⟩

theorem stopDone (data : List Byte) : Statement (.stopDone data) :=
  ⟨Nat.le_of_ble_eq_true rfl, fun _ _ h => nomatch h⟩

theorem conditions (data : List Byte) : Statement (.conditions data) :=
  ⟨Nat.le_of_ble_eq_true rfl, fun _ _ h => nomatch h⟩

theorem notice (data : List Byte) : Statement (.notice data) :=
  ⟨Nat.le_of_ble_eq_true rfl, fun _ _ h => nomatch h⟩

theorem slotLoad (data : List Byte) : Statement (.slotLoad data) :=
  ⟨Nat.le_of_ble_eq_true rfl, fun _ _ h => nomatch h⟩

theorem slotClear (data : List Byte) : Statement (.slotClear data) :=
  ⟨Nat.le_of_ble_eq_true rfl, fun _ _ h => nomatch h⟩

theorem status (data : List Byte) : Statement (.status data) :=
  ⟨Nat.le_of_ble_eq_true rfl, fun _ _ h => nomatch h⟩

theorem unknownCommandCode (message : List Byte) : Statement (.unknownCommandCode message) :=
  ⟨Nat.le_of_ble_eq_true rfl, fun _ _ h => nomatch h⟩

end Sys2Proof.Laws.Groups
end

