-- ==== Sys2Proof/WellFormed.lean ====
section
/-!
DEFINITION. Well-formed commands: operands that the outside world can really bring (log entries 4, 8
and 29). A command that is not well formed has a meaning all the same (log entry 1).
-/

namespace Sys2Proof

/-- The data lengths a frame can have: a remote frame has no data, a classic frame up to 8 bytes, a
CAN FD frame one of the lengths of R9. -/
def BusFrame.wellFormed (f : BusFrame) : Bool :=
  match f.format with
  | .remote => f.payload.isEmpty
  | .classicExtended => f.payload.length ≤ 8
  | .base | .fdExtended => Machine.busLengths.contains f.payload.length

/-- The data of a link command has a length of two bytes (R24). -/
def linkDataWellFormed (data : List Byte) : Bool := data.length < 65536

/-- Is a command well formed? -/
def Instr.wellFormed : Instr → Bool
  | .frameReceived f => f.wellFormed
  | .imageReadDone bytes => Machine.imageDelivered bytes
  | .take d | .read d | .stopDone d | .conditions d | .notice d | .slotLoad d | .slotClear d
  | .status d => linkDataWellFormed d
  | .postInterim b | .postPart b | .postFinal b => linkDataWellFormed (0#8 :: b)
  | .unknownCommandCode m =>
    Machine.linkMessage m == some m && Machine.commandOfMessage m == .unknownCommandCode m
  | _ => true

end Sys2Proof
end

