-- ==== Sys2Proof/Tests/Slice0.lean ====
section
/-!
SUPPORT. Tests: ill-formed commands, published vectors and the specification's worked examples, and for
every statement with hypotheses a state that meets them, each clause at a boundary of its range.
-/

open Sys2Proof Sys2Proof.Machine

namespace Sys2Proof.Tests

set_option Elab.async false

/-! ## Ill-formed commands are refused by the check -/

theorem test_illFormed_remoteWithData :
    (Instr.frameReceived ⟨.remote, 0, [1]⟩).wellFormed = false := by decide

theorem test_illFormed_classicOfNine :
    (Instr.frameReceived ⟨.classicExtended, 0, List.replicate 9 0⟩).wellFormed = false := by decide

theorem test_illFormed_fdOfNine :
    (Instr.frameReceived ⟨.fdExtended, 0, List.replicate 9 0⟩).wellFormed = false := by decide

theorem test_illFormed_imageOfTwo : (Instr.imageReadDone [1, 0]).wellFormed = false := by decide

theorem test_illFormed_linkData (d : List Byte) (h : d.length = 65536) :
    (Instr.slotLoad d).wellFormed = false := by
  simp [Instr.wellFormed, linkDataWellFormed, h]

theorem test_illFormed_postData (d : List Byte) (h : d.length = 65535) :
    (Instr.postFinal d).wellFormed = false := by
  simp [Instr.wellFormed, linkDataWellFormed, h]

/-- A TAKE without a framing fault is no framing fault. -/
theorem test_illFormed_soundMessage :
    (Instr.unknownCommandCode (linkFrame 0x01 [])).wellFormed = false := by decide +kernel

theorem test_wellFormed :
    (Instr.frameReceived ⟨.fdExtended, 0, List.replicate 12 0⟩).wellFormed = true ∧
    (Instr.frameReceived ⟨.classicExtended, 0, List.replicate 8 0⟩).wellFormed = true ∧
    (Instr.imageReadDone [2, 0, 0]).wellFormed = true ∧ (Instr.postFinal []).wellFormed = true ∧
    (Instr.unknownCommandCode (linkFrame 0x0A [])).wellFormed = true := by decide +kernel

/-! ## Published vectors and worked examples -/

def checkKey : List Byte :=
  [0x2B, 0x7E, 0x15, 0x16, 0x28, 0xAE, 0xD2, 0xA6, 0xAB, 0xF7, 0x15, 0x88, 0x09, 0xCF, 0x4F, 0x3C]

/-- RFC 4493, example 1. -/
theorem test_cmac_empty : cmac checkKey [] =
    [0xBB, 0x1D, 0x69, 0x29, 0xE9, 0x59, 0x37, 0x28, 0x7F, 0xA3, 0x7D, 0x12, 0x9B, 0x75, 0x67, 0x46] := by
  decide +kernel

/-- RFC 4493, example 2. -/
theorem test_cmac_one_block : cmac checkKey
    [0x6B, 0xC1, 0xBE, 0xE2, 0x2E, 0x40, 0x9F, 0x96, 0xE9, 0x3D, 0x7E, 0x11, 0x73, 0x93, 0x17, 0x2A] =
    [0x07, 0x0A, 0x16, 0xB4, 0x6B, 0x4D, 0x41, 0x44, 0xF7, 0x9B, 0xDD, 0x9D, 0xD0, 0x4A, 0x28, 0x7C] := by
  decide +kernel

/-- The published check values over the bytes of "123456789": CRC-32 in the form without reflection, and
CRC-8. -/
theorem test_crc_checkValues :
    crc32 [0x31, 0x32, 0x33, 0x34, 0x35, 0x36, 0x37, 0x38, 0x39] = 0xFC891918#32 ∧
    crc8 [0x31, 0x32, 0x33, 0x34, 0x35, 0x36, 0x37, 0x38, 0x39] = 0xF4#8 := by decide +kernel

/-- An identifier written out field by field (R18): urgency 2, ANNOUNCE, from 0x10, to 0xFF. -/
theorem test_identifier :
    (guardFrame 0 .announce []).ident = 0b010_000011_00010000_11111111_0000#29 := by decide

/-- The segments of 08, "blocks through a download" and "an answer the pool cannot take", and of 04: the
last index of 4095 bytes; the blocks freed by ANS_NEXT 2, 3 and 4; 180 bytes in three segments. -/
theorem test_segments :
    lastSegment 4095 = 66 ∧ blocksFor 4095 = 32 ∧
    (blocksOfSegment 4095 2, blocksOfSegment 4095 3, blocksOfSegment 4095 4) = (1, 0, 1) ∧
    segmentCount 180 = 3 ∧ (segmentBytes (List.replicate 180 0) 2).length = 60 := by decide

/-- A pattern entry of 04's example, by its first masked bytes. -/
def pattern (mask : BitVec 16) (first : List Byte) (least : Nat) (c : Sys2Proof.Class) : Pattern :=
  ⟨mask, first ++ List.replicate (16 - first.length) 0, least, c, .deliver⟩

/-- The pattern table of 04's example. -/
def engineControl : List Pattern :=
  [pattern 3 [0x41, 0x02] 2 .identify, pattern 1 [0x41] 1 .identify, pattern 1 [0x45] 1 .readFaults,
   pattern 1 [0x46] 3 .readLive, pattern 1 [0x4C] 1 .clearFaults, pattern 1 [0x52] 4 .actuate,
   pattern 1 [0x55] 2 .routine, pattern 5 [0x46, 0, 1] 8 .calibrate, pattern 1 [0x60] 1 .reprogram,
   pattern 1 [0x4F] 1 .readLive]

/-- The classifications of 04's example. -/
theorem test_classification :
    winningPattern engineControl [0x41] 1 = engineControl[1]? ∧
    winningPattern engineControl [0x41, 0x02] 2 = engineControl[0]? ∧
    winningPattern engineControl [0x46, 0x10, 0x00] 3 = engineControl[3]? ∧
    winningPattern engineControl ([0x46, 0x10, 0x01] ++ List.replicate 13 0) 32 = engineControl[7]? ∧
    winningPattern engineControl [0x46, 0x10] 2 = none ∧
    winningPattern engineControl [0x4F] 1 = engineControl[9]? ∧
    winningPattern engineControl [0x77, 0, 0, 0, 0] 5 = none := by decide

/-! ## Example states -/

def exampleTiming : Timing := ⟨250, 750, 300, 30, 1000, 10, 2000, 2, 500, 2⟩

/-- Domains 0 to 2 fitted, the own 0: CLEAR_FAULTS in the home's domain, every other class in all three
when homed at 0 or 1; REPROGRAM needs the vehicle stopped; classes compatible with CLEAR_FAULTS only. -/
def exampleSettings : Settings where
  vehicleId := 0xDEADBEEF
  checkKey := checkKey
  domainMap := 0b111
  timing := exampleTiming
  touch := [1, 2, 4] ++ List.replicate 9 0 ++ [7, 7, 4] ++ List.replicate 9 0 ++
    [7, 7, 4] ++ List.replicate 9 0 ++ [7, 7, 4] ++ List.replicate 9 0 ++ [7, 7, 4] ++ List.replicate 9 0
  matrix := [0b11111, 1, 1, 1, 1]
  requirements := [(0, 0), (0, 0), (0, 0), (0, 0), (0b00100, 0b00100)]
  levels := [(1, 0), (1, 0), (1, 0), (1, 0), (2, 1), (2, 1), (3, 2), (3, 3)]
  withdrawn := [77]
  ownDomain := 0
  fenceAtPowerOn := false
  fenceAfterLineReset := true
  patterns := engineControl
  digest := 0x12345678

/-- A member at work, with nothing in progress. -/
def member : State :=
  { State.reset with
    guardTime := 100
    phase := .running
    loader := .idle
    config := exampleSettings
    bus := { Backbone.start with mode := .enabled }
    membership :=
      ⟨.member, Vector.replicate 12 ⟨.present, some 0x12345678, some .powerOn, some 0⟩, [], false⟩ }

/-- Every tester admitted for every class. -/
def admittedAll : State :=
  { member with
    admissions := Vector.replicate 14
      ⟨some ⟨List.replicate 20 0, 5, 9, 0x3FF, 7, ⟨0, 60000⟩, ⟨0, 30000⟩⟩, .none⟩ }

/-- The sponsor part of a claim at rest. -/
def atRest : Sponsor := ⟨1, false, none, 300, some ⟨0, 300000⟩, false, .idle, true, 9⟩

/-- A claim of tester 0 homed here, in a state. -/
def ownRecord (x : ClaimState) : Record :=
  ⟨0x0001, 0, .actuate, 7, x, true, false, x == .pending || x == .resuming, none, false, false, some atRest⟩

/-- A claim of tester 0 homed at domain 1, in a state. -/
def peerRecord (x : ClaimState) : Record :=
  ⟨0x1001, 0, .clearFaults, 3, x, false, false, x == .pending || x == .resuming,
    if x = .pending || x = .resuming then some ⟨0, 750⟩ else none, false, false, none⟩

def holding (r : Record) : State := { admittedAll with hold := ⟨[r], [], 2⟩ }

/-- The same with the sponsor part changed. -/
def holdingWith (x : ClaimState) (f : Sponsor → Sponsor) : State := holding ((ownRecord x).onSponsor f)

/-- A state with one frame in the FIFO. -/
def withHead (s : State) (echo : Bool) (k : FrameKind) (source target : Byte) (p : List Byte) : State :=
  { s with bus := { s.bus with rxFifo := [⟨⟨k.urgency, k.code, source, target, p⟩, echo, 0⟩] } }

/-- A tester's frame to the own address. -/
def fromTester (s : State) (k : FrameKind) (t : Tester) (p : List Byte) : State :=
  withHead s false k (testerAddress t) (guardAddress s.config.ownDomain) p

/-- A guard's frame: the echo of an own frame, or a peer's. -/
def fromGuard (s : State) (k : FrameKind) (echo : Bool) (d : Domain) (p : List Byte) : State :=
  withHead s echo k (guardAddress d) 0xFF p

/-- Such a tester frame is the head the statements speak of. -/
theorem fromTester_head (s : State) (k : FrameKind) (t : Tester) (p : List Byte)
    (hp : s.phase = .running) (hl : k.minLength ≤ p.length) :
    (fromTester s k t p).testerHead k t p [] :=
  ⟨hp, hl, _, rfl, rfl, rfl, rfl, by simp [targetAllows, fromTester, withHead], rfl⟩

/-- Such a guard frame is the head the statements speak of. -/
theorem fromGuard_head (s : State) (k : FrameKind) (echo : Bool) (d : Domain) (p : List Byte)
    (hp : s.phase = .running) (hl : k.minLength ≤ p.length)
    (hd : sourceClass s.config (guardAddress d) = .own ∧ s.config.ownDomain = d ∨
      sourceClass s.config (guardAddress d) = .peer d) :
    (fromGuard s k echo d p).guardHead k echo d p [] := by
  refine ⟨hp, hl, _, rfl, rfl, rfl, ?_, rfl⟩
  rcases hd with ⟨h, h'⟩ | h
  · simp [guardSender, fromGuard, withHead, h, h']
  · simp [guardSender, fromGuard, withHead, h]

/-- The state after a command. -/
def after (c : Instr) (s : State) : State :=
  match exec c s with
  | .next t => t
  | _ => s

/-! ## States that meet the hypotheses: invariants and frames -/

/-- A read of tester 0, one block. -/
def readEntry : QueueEntry := ⟨0, 3, .readFaults, 1, noClaim, [0x45], 1, ⟨0, 10000⟩⟩

/-- An effecting request of tester 0 under its claim. -/
def actuateEntry : QueueEntry := ⟨0, 4, .actuate, 2, 0x0001, [0x52, 0, 0, 0], 2, ⟨0, 10000⟩⟩

def queueing (s : State) (q : List QueueEntry) : State := { s with delivery := { s.delivery with queue := q } }

/-- A request in service: of a class, under a claim. -/
def inService (c : Sys2Proof.Class) (id : ClaimId) : Service :=
  ⟨0, 5, c, id, [0x52], some ⟨100, 2000⟩, 0, [], false⟩

def serving (s : State) (v : Service) : State :=
  { s with
    delivery := { s.delivery with service := some v }
    memory := { s.memory with free := s.memory.free - v.blocks } }

/-- An effecting request in service under its HELD claim. -/
def operating : State := serving (holding (ownRecord .held)) (inService .actuate 0x0001)

/-- A read in service. -/
def reading : State := serving admittedAll (inService .readFaults noClaim)

/-- A stop order stands for the request in service. -/
def stopping (c : StopCause) : State := operating.askStop c

/-- Every unit at work. -/
def busy : State :=
  State.drive { operating with
    pending := [.echo]
    memory := ⟨92, operating.memory.lanes.set 1
      (.assembling ⟨1, 100, noClaim, .identify, 1, .deliver, List.replicate 59 0, 1, 1, ⟨0, 1000⟩⟩),
      [⟨2, 1, .ecu, .identify, [1], 0⟩]⟩
    delivery := { operating.delivery with queue := [actuateEntry] }
    link := { operating.link with notices := [⟨.claimBegin, 0, some 0, none, 1, some .actuate, 0, false⟩] } }

theorem test_busy_meets_invariants :
    busy.linesFollow = true ∧ busy.poolWhole = true ∧ busy.fifoBounded = true ∧
    busy.txBounded = true ∧ busy.viewSound = true ∧ busy.viewCompatible = true ∧
    busy.queueKeyed = true ∧ busy.repliesBounded = true ∧ busy.effectingNamed = true ∧
    busy.fenceSound = true ∧ busy.stopSound = true ∧ busy.queueServed = true := by decide +kernel

theorem test_busy_steps : ∃ t, step busy = .next t := ⟨_, rfl⟩

/-- A fenced guard with a cause, and a guard with a stop order, meet the two fence invariants. -/
theorem test_fence_meets_invariants :
    (after .fenceLineAssertion reading).fenceSound = true ∧
    (after .fenceLineAssertion reading).fence.causes = 1 ∧
    (stopping .abort).fenceSound = true ∧ (stopping .abort).stopSound = true ∧
    (stopping .abort).fence.stop.isSome = true := by decide +kernel

/-- Every tester admitted, with guard time at the end of the quiet timers. -/
def quietDue : State := { admittedAll with guardTime := 30000 }

/-- No timer runs; timers run and none is due; one is due; RESET is asserted. -/
theorem test_tick_hypotheses :
    (member.pending = [] ∧ member.runningTimers = [] ∧ admittedAll.dueExpiry = none) ∧
    (quietDue.pending = [] ∧ quietDue.dueExpiry = some (.quietTimerExpiry 0) ∧
      quietDue.runningTimers.all (fun x =>
        x.2.length < 2 ^ 32 && x.2.elapsed quietDue.guardTime ≤ x.2.length) = true) ∧
    (∃ k, (after .resetAsserted member).phase = .held k) ∧
    (after .resetAsserted member).pending = [] :=
  ⟨by decide +kernel, by decide +kernel, ⟨_, rfl⟩, rfl⟩

/-- The state after a step. -/
def stepped (s : State) : State :=
  match step s with
  | .next t => t
  | _ => s

/-- On an empty queue the due quiet timer expires; guard time does not pass it. -/
theorem test_tick_quietExpires :
    (stepped quietDue).guardTime = 30000 ∧ (stepped quietDue).admitted 0 = false ∧
    (stepped quietDue).admissions[(0 : Tester)].lastEnd = .quiet := by decide +kernel

/-- The validity timer cannot expire before the quiet timer that ends sooner; the quiet timer's row moves
guard time to its end. -/
theorem test_expiry_inOrder :
    (after (.validityTimerExpiry 0) admittedAll).guardTime = 100 ∧
    (after (.validityTimerExpiry 0) admittedAll).admitted 0 = true ∧
    (after (.quietTimerExpiry 0) admittedAll).guardTime = 30000 ∧
    (after (.quietTimerExpiry 0) admittedAll).admitted 0 = false := by decide +kernel

theorem test_configurationFrame_hypotheses :
    (∃ t, exec (.status []) member = .next t) ∧ timerExpiry (.status []) = false ∧
    linkRow (.status []) = true := ⟨⟨_, rfl⟩, rfl, rfl⟩

theorem test_admissionsFrame_hypotheses :
    (after (.quietTimerExpiry 0) admittedAll).admissions[0] ≠ admittedAll.admissions[0] ∧
    (after .leavePassage (fromTester admittedAll .leave 1 [])).admissions[1] ≠
      admittedAll.admissions[1] := by decide +kernel

theorem test_replicatedFrame_hypotheses :
    (∃ t, exec (.leaseTimerExpiry 1) (holding (ownRecord .held)) = .next t) ∧
    guardRow (.leaseTimerExpiry 1) = none := ⟨⟨_, rfl⟩, rfl⟩

/-- The domain state, PRIOR and the marker change. -/
theorem test_fenceFrame_hypotheses :
    (after .fenceLineAssertion member).fence.fenced ≠ member.fence.fenced ∧
    (after .fenceLineAssertion (stopping .abort)).fence.prior ≠ (stopping .abort).fence.prior ∧
    (after (.take []) (queueing (holding (ownRecord .held)) [actuateEntry])).fence.marker = true := by
  decide +kernel

theorem test_deliveryFrame_hypotheses :
    admittedAll.delivery.service = none ∧
    (after (.take []) (queueing admittedAll [readEntry])).delivery.service ≠ none := by decide +kernel

theorem test_trailFrame_hypotheses :
    (member.offerCapture ⟨0, 1, none, Reason.tooLong, 0, []⟩).trail.capture.isSome = true ∧
    member.startAfterReset ≠ .powerOn := by decide +kernel

/-- An ANNOUNCE meets a FENCED guard, which objects. -/
theorem test_fencedConsent_hypotheses :
    (after .fenceLineAssertion member).fence.fenced = true ∧
    (after .announceNewPassage (fromGuard (after .fenceLineAssertion member) .announce false 1
      (announcePayload 0x1001 .fresh 0 .clearFaults 3 false false))).bus.txQueue.any (fun e =>
        e.frame.kind == FrameKind.object.code) = true := by decide +kernel

/-! ## States that meet the hypotheses: the shared operations -/

/-- A transmit queue of so many protocol entries and so many tester-bound ones. -/
def sendingQueue (s : State) (protocol tester : Nat) : State :=
  { s with bus := { s.bus with
      txQueue := List.replicate protocol ⟨guardFrame 0 .present [], 0⟩ ++
        List.replicate tester ⟨testerFrame 0 .result 0 [], 0⟩ } }

/-- A REVOKE_DOMAIN waits. -/
def revokeWaiting (s : State) : State :=
  { s with membership := { s.membership with outstanding := [⟨.resync, .waiting⟩] } }

def memberIn (x : MemberState) (o : List Clearing) : State :=
  { member with membership := { member.membership with state := x, outstanding := o } }

theorem test_offers_hypotheses :
    (member.bus.mode = .enabled ∧ (sendingQueue member 23 0).revokeWaits = false ∧
      (sendingQueue member 23 0).bus.txQueue.length < 24) ∧
    (24 ≤ (sendingQueue member 24 0).bus.txQueue.length ∧ (revokeWaiting member).revokeWaits = true) ∧
    State.reset.bus.mode ≠ .enabled ∧
    ((sendingQueue member 8 15).bus.testerEntries < 16 ∧
      (sendingQueue member 8 15).bus.txQueue.length < 24) ∧
    ¬ (sendingQueue member 0 16).bus.testerEntries < 16 := by decide +kernel

theorem test_lossEvent_hypotheses :
    State.reset.membership.state = .offline ∧
    (memberIn .joining [⟨.start, .queued⟩]).membership.state = .joining ∧
    (memberIn .member [⟨.revoked, .queued⟩]).membership.outstanding.any Clearing.toComplete = true ∧
    (memberIn .member [⟨.revoked, .completed true⟩]).membership.outstanding.any
      Clearing.toComplete = false := by decide +kernel

/-- OPEN with a stop order, with a read in service, and with a closed incident; FENCED without and with
the cause. -/
theorem test_fenceCause_hypotheses :
    ((stopping .abort).fence.fenced = false ∧ (stopping .abort).stopStands = true ∧
      ((stopping .abort).fence.current.map fun i => i.status) = some .opened ∧
      ((stopping .abort).delivery.service.map fun v => v.cls.effecting) = some true) ∧
    (reading.fence.fenced = false ∧ reading.stopStands = true ∧ reading.fence.current = none ∧
      (reading.delivery.service.map fun v => v.cls.effecting) = some false ∧
      reading.trail.mode = .recording) ∧
    ((after .fenceLineAssertion member).fence.hasCause .line = true ∧
      (after .fenceLineAssertion member).fence.hasCause .tester = false) := by decide +kernel

/-- REVOKE_DOMAIN(own, REVOKED) asked for: OFFLINE, with one waiting, with room and without. -/
theorem test_requestRevoke_hypotheses :
    State.reset.membership.state = .offline ∧ (revokeWaiting member).revokeWaits = true ∧
    (revokeWaiting member).requestRevoke.membership.outstanding = [⟨.revoked, .waiting⟩] ∧
    (member.requestRevoke.bus.txQueue.length = 1 ∧ member.revokeWaits = false) ∧
    (sendingQueue member 24 0).requestRevoke.membership.outstanding = [⟨.revoked, .waiting⟩] := by
  decide +kernel

theorem test_stopOrders_hypotheses :
    (operating.delivery.service = some (inService .actuate 1) ∧
      (inService .actuate 1).cls.effecting = true ∧ operating.fence.stop = none) ∧
    (reading.delivery.service = some (inService .readFaults noClaim) ∧
      (inService .readFaults noClaim).cls.effecting = false) ∧
    (stopping .abort).fence.stop ≠ none ∧
    settledResult .serviceTimeout = none ∧ settledResult .abort = some (Reason.aborted, .abortReq) ∧
    (stopping .abort).takesStatus = true := by decide +kernel

def plainNotice : Notice := ⟨.lifted, 0, some 0, none, noClaim, none, 0, false⟩
def stopNotice (x : Bool) : Notice := ⟨.stop, 0, some 0, some 1, 1, some .actuate, 1, x⟩
def notified (n : List Notice) : State := { member with link := { member.link with notices := n } }
def trailIn (m : TrailMode) : State := { member with trail := { member.trail with mode := m } }

theorem test_notices_hypotheses :
    plainNotice.plain = true ∧ (stopNotice true).plain = false ∧
    (notified (List.replicate 6 plainNotice)).link.notices.countP Notice.plain < 7 ∧
    ¬ (notified (List.replicate 7 plainNotice)).link.notices.countP Notice.plain < 7 ∧
    (notified (List.replicate 7 plainNotice)).link.notices.any Notice.plain = true ∧
    ¬ (notified (List.replicate 8 (stopNotice false))).link.notices.length < 8 ∧
    (notified (List.replicate 8 (stopNotice false))).link.notices.any Notice.plain = false := by
  decide

/-- DRAINING with one entry to go, FROZEN, and the last position of the trail. -/
theorem test_trail_steps :
    ((trailIn (.draining 1)).post .lifted none none none 0).trail.mode = .frozen ∧
    ((trailIn (.draining 2)).post .lifted none none none 0).trail.mode = .draining 1 ∧
    ((trailIn .frozen).post .lifted none none none 0).trail.skipped = 1 ∧
    (({ member with trail := { member.trail with index := 511 } } : State).post
      .lifted none none none 0).trail.index = 0 := by decide +kernel

theorem test_choices_hypotheses :
    (queueing admittedAll [readEntry, { readEntry with tag := 9, level := 3 }]).arbiter =
      some { readEntry with tag := 9, level := 3 } ∧
    member.arbiter = none ∧ winningPattern engineControl [0x41] 1 ≠ none ∧
    ({ member with hold := ⟨List.replicate 24 (ownRecord .held), [], 0⟩ } : State).hold.view.length +
      0 ≤ 24 := by decide +kernel

/-! ## States that meet the hypotheses: starts, the loader, the fence frames -/

/-- The smallest image: no withdrawn serial, no pattern entry, every scope the home's own domain. -/
def imageBody : List Byte :=
  [1] ++ nat16 192 ++ [0xDE, 0xAD, 0xBE, 0xEF] ++ checkKey ++ nat16 0b111 ++
    (nat16 250 ++ nat16 750 ++ nat16 300 ++ [30] ++ nat16 1000 ++ [10] ++ nat16 2000 ++ [2] ++
      nat16 500 ++ [2]) ++
    ((List.range 5).flatMap fun _ => (List.range 12).flatMap fun h => nat16 (if h < 3 then 2 ^ h else 0)) ++
    [0, 0, 0, 0, 0] ++ List.replicate 10 0 ++ List.replicate 8 0 ++ [0] ++ [0, 3, 0]

/-- The CRC-32 register over the body, a quarter at a time. -/
theorem imageBody_quarters :
    imageBody = imageBody.take 47 ++ ((imageBody.drop 47).take 47 ++
      ((imageBody.drop 94).take 47 ++ imageBody.drop 141)) := by decide +kernel

theorem imageBody_quarter1 : (imageBody.take 47).foldl crc32Byte 0xFFFFFFFF#32 = 0x1B1A808F#32 := by
  decide +kernel

theorem imageBody_quarter2 :
    ((imageBody.drop 47).take 47).foldl crc32Byte 0x1B1A808F#32 = 0x83237683#32 := by decide +kernel

theorem imageBody_quarter3 :
    ((imageBody.drop 94).take 47).foldl crc32Byte 0x83237683#32 = 0x13032F90#32 := by decide +kernel

theorem imageBody_quarter4 : (imageBody.drop 141).foldl crc32Byte 0x13032F90#32 = 0x7A097AD8#32 := by
  decide +kernel

theorem imageBody_crc : crc32 imageBody = 0x85F68527#32 := by
  unfold crc32
  rw [imageBody_quarters, List.foldl_append, List.foldl_append, List.foldl_append, imageBody_quarter1,
    imageBody_quarter2, imageBody_quarter3, imageBody_quarter4]
  decide

def image : List Byte := imageBody ++ [0x85, 0xF6, 0x85, 0x27]

theorem image_structure : imageStructureOk image = true := by
  have h : image.take (imageLength image - 4) = imageBody := by decide +kernel
  have hc : imageCrcOk image = true := by
    unfold imageCrcOk
    rw [h, imageBody_crc]
    decide +kernel
  have hr : (imageFormatOk image && imageLengthOk image && imageConsistent image) = true := by
    decide +kernel
  simp [imageStructureOk, hc, hr]

/-- An image of another format is rejected at its header; this one is accepted, for domain 0, fencing at
POWER_ON. -/
theorem test_image_hypotheses :
    imageDelivered [2, 0, 0] = true ∧ imageSettings [2, 0, 0] = none ∧
    imageDelivered image = true ∧ imageSettings image = some (settingsOf image 0) ∧
    (settingsOf image 0).fenceAtPowerOn = true ∧
    State.reset.phase = .starting ∧ State.reset.loader = .reading 0 ∧
    State.reset.membership.state = .offline ∧ State.reset.fence = Fence.start := by
  refine ⟨by decide, by decide, by decide +kernel, ?_, by decide +kernel, rfl, rfl, rfl, rfl⟩
  have ho : ownDomainOf image = some 0 := by decide +kernel
  have hc : (inSet 0 (domainMapOf image) && scopesOk image && matrixOk (matrixOf image) &&
      timingOk (timingOf image) && patternsOk image) = true := by decide +kernel
  simp only [imageSettings, image_structure, ho, hc, if_true]

/-- A start held by RESET, released as a POWER_ON and as a LINE_RESET; the second and the third failed
attempt, and the wait between. -/
theorem test_starts_hypotheses :
    State.reset.pins.resetAsserted = false ∧ (after .resetAsserted State.reset).pins.resetAsserted = true ∧
    (after .powerOn (after .resetAsserted member)).startAfterReset = .powerOn ∧
    (after .resetAsserted member).startAfterReset = .lineReset ∧
    (after .attemptFailed State.reset).loader = .waiting 1 ⟨0, 5⟩ ∧
    (after .loaderRetryWaitExpiry (after .attemptFailed State.reset)).loader = .reading 1 ∧
    (after .attemptFailed { State.reset with loader := .reading 2 }).phase = .unconfigured := by
  decide +kernel

theorem test_fenceLine_hypotheses :
    (member.pins.fenceAsserted = false ∧ member.phase = .running) ∧
    (State.reset.pins.fenceAsserted = false ∧ State.reset.phase ≠ .running) ∧
    (after .fenceLineAssertion member).pins.fenceAsserted = true ∧
    (after .fenceLineAssertion State.reset).pins.fenceAsserted = true := by decide +kernel

/-- Admitted for class 4 alone. -/
def admittedActuate : State :=
  { member with
    admissions := Vector.replicate 14
      ⟨some ⟨List.replicate 20 0, 5, 9, 0b10000, 7, ⟨0, 60000⟩, ⟨0, 30000⟩⟩, .none⟩ }

def fencedBy (c : FenceCause) (line : Bool) : State :=
  { admittedAll with
    pins := { admittedAll.pins with fenceAsserted := line }
    fence := { admittedAll.fence with fenced := true, causes := c.bit } }

theorem test_fenceFrames_heads :
    (fromTester admittedAll .fence 0 []).testerHead .fence 0 [] [] ∧
    (fromTester admittedAll .lift 0 []).testerHead .lift 0 [] [] :=
  ⟨fromTester_head _ _ _ _ rfl (by decide), fromTester_head _ _ _ _ rfl (by decide)⟩

theorem test_fenceFrames_hypotheses :
    member.admitted 0 = false ∧
    (admittedActuate.admitted 0 = true ∧ admittedActuate.grants 0 .fence = false) ∧
    (admittedAll.grants 0 .fence = true ∧ admittedAll.fence.fenced = false) ∧
    ((fencedBy .tester false).fence.hasCause .tester = true ∧
      (fencedBy .line true).fence.hasCause .tester = false) ∧
    (fencedBy .line true).pins.fenceAsserted = true ∧
    ((fencedBy .line false).pins.fenceAsserted = false ∧ (fencedBy .line false).fence.fenced = true) := by
  decide +kernel

/-! ## States that meet the hypotheses: the controller -/

/-- A start held by RESET, released with the marker set and the line asserted, and without. -/
theorem test_lineResetStart_hypotheses :
    (after .lineReset member).startKind = .lineReset ∧
    (after .lineReset member).membership.state = .offline ∧
    (after .lineReset member).loader = .reading 0 ∧
    (after .fenceLineAssertion (after .lineReset member)).pins.fenceAsserted = true ∧
    (after .lineReset (after (.take []) (queueing (holding (ownRecord .held)) [actuateEntry]))).fence.marker =
      true := by decide +kernel

/-- A frame from a source to a target, as another station sends it. -/
def sentBy (x : FrameFormat) (k : FrameKind) (source target : Byte) : BusFrame :=
  ⟨x, Frame.ident ⟨k.urgency, k.code, source, target, []⟩, []⟩

def acceptanceOf (f : BusFrame) : Acceptance := acceptance exampleSettings (Frame.ofIdent f.ident f.payload)

def filled (n : Nat) (sending : Option Nat) : State :=
  { member with bus := { member.bus with
      rxFifo := List.replicate n ⟨guardFrame 1 .present [], false, 0⟩, sending := sending } }

/-- Kept, ignored and counted frames, of testers, peers, the own address and an unfitted domain; the last
place with and without a transmission under way. -/
theorem test_frameReceived_hypotheses :
    member.onBackbone = true ∧ member.config = exampleSettings ∧
    acceptanceOf (sentBy .fdExtended .join (guardAddress 2) 0xFF) = .keep ∧
    acceptanceOf (sentBy .classicExtended .leave (testerAddress 13) 0x12) = .keep ∧
    acceptanceOf (sentBy .fdExtended .result (guardAddress 1) (testerAddress 0)) = .ignore ∧
    acceptanceOf (sentBy .fdExtended .result (guardAddress 1) 0x10) = .dropCounted ∧
    acceptanceOf (sentBy .fdExtended .join (guardAddress 0) 0xFF) = .dropCounted ∧
    acceptanceOf (sentBy .fdExtended .join (guardAddress 3) 0xFF) = .dropCounted ∧
    (filled 31 none).bus.rxFifo.length = 31 ∧ (filled 31 (some 0)).bus.sending.isSome = true ∧
    (filled 32 none).onBackbone = true := by decide +kernel

def busErrors (n : Nat) : State :=
  { operating with bus := { (sendingQueue operating 1 0).bus with sending := some 0, txErrors := n } }

/-- A transmission under way; an entry to choose; a waiting REVOKE_DOMAIN that finds room; an answer to
segment; and the error counts around the bus-off limit, with an effecting request in service, a stop
order and a read in service. -/
theorem test_sending_hypotheses :
    ((filled 31 none).bus.sending = none ∧ (filled 31 none).revokeCanJoin = false) ∧
    ((busErrors 0).bus.sending = some 0 ∧ (busErrors 0).bus.txQueue[0]?.isSome = true) ∧
    ((sendingQueue (revokeWaiting member) 23 0).bus.txQueue.length < 24 ∧
      (sendingQueue (revokeWaiting member) 23 0).membership.outstanding.find?
        (fun c => c.progress == .waiting) = some ⟨.resync, .waiting⟩) ∧
    ((sendingQueue busy 8 15).roomForTester = true ∧ (sendingQueue busy 8 15).revokeWaits = false ∧
      (sendingQueue busy 8 15).memory.replies = [⟨2, 1, .ecu, .identify, [1], 0⟩]) ∧
    chooseEntry (sendingQueue member 2 1).bus.txQueue = some 0 ∧ chooseEntry [] = none := by
  decide +kernel

theorem test_busErrors_hypotheses :
    (busErrors 247).onBackbone = true ∧ 247 + 8 ≤ 255 ∧ 255 < 248 + 8 ∧
    (busErrors 248).delivery.service = some (inService .actuate 1) ∧ (busErrors 248).fence.stop = none ∧
    (stopping .abort).fence.stop.isSome = true ∧
    (reading.delivery.service.map fun v => v.cls.effecting) = some false ∧
    (after .transmitError (busErrors 248)).phase = .running ∧
    (after .transmitError (busErrors 248)).bus.mode = .busOff := by decide +kernel

/-! ## States that meet the hypotheses: passages -/

def echoed (k : FrameKind) : RxEntry := ⟨testerFrame 0 k 0 [], true, 1⟩
def fromTesterTo (k : FrameKind) (target : Byte) : RxEntry :=
  ⟨⟨4, k.code, testerAddress 0, target, [4, 0, 0, 0, 9]⟩, false, 0⟩

theorem test_plainPassages_hypotheses :
    (echoed .ansFirst).frame.isSort FrameKind.answerKind = true ∧
    (echoed .result).frame.isSort FrameKind.statusKind = true ∧
    (refreshOnly exampleSettings (fromTesterTo .claim 0x11).frame = true ∧
      refreshCounted exampleSettings (fromTesterTo .claim 0x11).frame = false) ∧
    (refreshOnly exampleSettings (fromTesterTo .result 0xFF).frame = true ∧
      refreshCounted exampleSettings (fromTesterTo .result 0xFF).frame = true) ∧
    testerOf (fromTesterTo .claim 0xFF).frame.source = some 0 ∧
    (admittedAll.ticket 0).isSome = true ∧ member.ticket 0 = none := by decide +kernel

/-- Too short by one byte; and a head that is not the row's. -/
theorem test_framesDropped_hypotheses :
    (testerSender exampleSettings .claim ⟨⟨4, FrameKind.claim.code, testerAddress 0, 0x10, [4, 0, 0, 0]⟩,
      false, 0⟩ = some 0 ∧ 4 < FrameKind.claim.minLength) ∧
    testerSender exampleSettings .renew (fromTesterTo .claim 0x10) = none ∧
    (guardSender exampleSettings (guardFrame 1 .consent [0x00, 0x01]) = some 1 ∧
      (guardFrame 1 .consent [0x00, 0x01]).kind? = some .consent ∧
      (guardFrame 1 .consent [0x00, 0x01]).payload.length < FrameKind.consent.minLength) ∧
    guardSender exampleSettings (guardFrame 3 .consent []) = none := by decide +kernel

theorem test_membership_heads (s : State) (h : s.phase = .running) (hc : s.config = exampleSettings) :
    (fromGuard s .join true 0 (joinPayload 1 0 .powerOn)).guardHead .join true 0
      (joinPayload 1 0 .powerOn) [] ∧
    (fromGuard s .join false 1 (joinPayload 1 1 .powerOn)).guardHead .join false 1
      (joinPayload 1 1 .powerOn) [] ∧
    (fromGuard s .present true 0 (presentPayload 1 0)).guardHead .present true 0 (presentPayload 1 0) [] ∧
    (fromGuard s .present false 1 (presentPayload 1 1)).guardHead .present false 1
      (presentPayload 1 1) [] ∧
    (fromGuard s .revokeDomain true 0 (revokePayload 0 .revoked)).guardHead .revokeDomain true 0
      (revokePayload 0 .revoked) [] ∧
    (fromGuard s .revokeDomain false 1 (revokePayload 1 .resync)).guardHead .revokeDomain false 1
      (revokePayload 1 .resync) [] :=
  ⟨fromGuard_head _ _ _ _ _ h (by decide) (.inl (by rw [hc]; decide)),
    fromGuard_head _ _ _ _ _ h (by decide) (.inr (by rw [hc]; decide)),
    fromGuard_head _ _ _ _ _ h (by decide) (.inl (by rw [hc]; decide)),
    fromGuard_head _ _ _ _ _ h (by decide) (.inr (by rw [hc]; decide)),
    fromGuard_head _ _ _ _ _ h (by decide) (.inl (by rw [hc]; decide)),
    fromGuard_head _ _ _ _ _ h (by decide) (.inr (by rw [hc]; decide))⟩

/-- A covering passage, one with another clearing frame outstanding, one with none; a PRESENT owed; and
payloads that name another domain, an unknown start kind or an unknown reason. -/
theorem test_membership_hypotheses :
    (memberIn .joining [⟨.start, .completed true⟩]).coveringPassage true = true ∧
    (memberIn .joining [⟨.start, .completed false⟩]).coveringPassage true = false ∧
    (memberIn .resync [⟨.revoked, .completed true⟩]).coveringPassage false = true ∧
    (memberIn .resync [⟨.revoked, .completed false⟩, ⟨.resync, .queued⟩]).coveringPassage false = false ∧
    (memberIn .resync [⟨.resync, .completed true⟩]).membership.presentOwed = false ∧
    (StartKind.ofCode (byteAt (joinPayload 1 1 .powerOn) 5) = some .powerOn ∧
      byteAt (joinPayload 1 1 .powerOn) 4 = nat8 1) ∧
    byteAt (joinPayload 1 2 .powerOn) 4 ≠ nat8 1 ∧ StartKind.ofCode 4 = none ∧
    (byteAt (presentPayload 1 1) 4 = nat8 1 ∧ byteAt (presentPayload 1 2) 4 ≠ nat8 1) ∧
    (byteAt (revokePayload 1 .resync) 0 = nat8 1 ∧ byteAt (revokePayload 1 .resync) 1 = Reason.resync) ∧
    byteAt (revokePayload 1 .start) 1 ≠ Reason.revoked ∧
    (holding (peerRecord .held)).viewSound = true := by decide +kernel

/-! ## States that meet the hypotheses: negotiation -/

def claimBytes : List Byte := [4, 0, 0, 0, 9]

theorem test_claim_hypotheses :
    (fromTester admittedAll .claim 0 claimBytes).testerHead .claim 0 claimBytes [] ∧
    (member.afterTesterHead 0).judgeClaim 0 4 = .inl Reason.notAdmitted ∧
    (admittedAll.afterTesterHead 0).judgeClaim 0 4 = .inr .actuate ∧
    (admittedAll.afterTesterHead 0).judgeClaim 0 2 = .inl Reason.capability ∧
    (admittedAll.afterTesterHead 0).judgeClaim 0 7 = .inl Reason.condition ∧
    admittedAll.takesProtocol = true ∧ (sendingQueue admittedAll 24 0).takesProtocol = false :=
  ⟨fromTester_head _ _ _ _ rfl (by decide), by decide +kernel⟩

/-- The reservation of a CLAIM, of a class. -/
def reserved (s : State) (c : Sys2Proof.Class) (scope : DomainSet) : State :=
  { s with hold := { s.hold with reservations := [⟨0x0001, 0, c, scope, true, false, 300, 9⟩] } }

def announced (id : ClaimId) (k : AnnounceKind) (c : Sys2Proof.Class) (scope : DomainSet) : List Byte :=
  announcePayload id k 0 c scope true false

/-- The ANNOUNCE that such a payload spells. -/
def read (d : Domain) (id : ClaimId) (k : AnnounceKind) (c : Sys2Proof.Class) (scope : DomainSet) :
    Option Announce := readAnnounce d (announced id k c scope)

theorem test_announce_heads (s : State) (k : AnnounceKind) (h : s.phase = .running)
    (hc : s.config = exampleSettings) :
    (fromGuard s .announce false 1 (announced 0x1001 k .actuate 7)).guardHead .announce false 1
      (announced 0x1001 k .actuate 7) [] ∧
    (fromGuard s .announce true 0 (announced 0x0001 k .actuate 7)).guardHead .announce true 0
      (announced 0x0001 k .actuate 7) [] ∧
    announceKindAt (announced 0x1001 k .actuate 7) = some k ∧
    announceKindAt (announced 0x0001 k .actuate 7) = some k :=
  ⟨fromGuard_head _ _ _ _ _ h (by cases k <;> decide) (.inr (by rw [hc]; decide)),
    fromGuard_head _ _ _ _ _ h (by cases k <;> decide) (.inl (by rw [hc]; decide)),
    by cases k <;> decide, by cases k <;> decide⟩

/-- Out of scope, malformed, consent and objection at a voter; and at the sponsor refusal, a negotiation
and a claim of the own domain alone. -/
theorem test_announceNew_hypotheses :
    inSet 0 (announceScope (announced 0x1001 .fresh .actuate 6)) = false ∧
    read 1 0x2001 .fresh .actuate 7 = none ∧
    (∃ a, read 1 0x1001 .fresh .actuate 7 = some a ∧ admittedAll.voterNewReason 1 a = none ∧
      (after .fenceLineAssertion member).voterNewReason 1 a = some Reason.fenced) ∧
    (∃ a v, read 0 0x0001 .fresh .actuate 7 = some a ∧
      (reserved admittedAll .actuate 7).reservation? a.id = some v ∧
      (reserved admittedAll .actuate 7).sponsorNewReason v a = none ∧ a.scope ≠ onlyDomain 0 ∧
      (reserved member .actuate 7).sponsorNewReason v a = some Reason.notAdmitted) ∧
    (∃ a v, read 0 0x0001 .fresh .clearFaults 1 = some a ∧
      (reserved admittedAll .clearFaults 1).reservation? a.id = some v ∧
      (reserved admittedAll .clearFaults 1).sponsorNewReason v a = none ∧ a.scope = onlyDomain 0) :=
  ⟨by decide, by decide, ⟨_, rfl, by decide +kernel⟩, ⟨_, _, rfl, rfl, by decide +kernel⟩,
    ⟨_, _, rfl, rfl, by decide +kernel⟩⟩

theorem test_announceResume_hypotheses :
    (∃ a, read 1 0x1001 .resume .actuate 7 = some a ∧
      (holding (peerRecord .suspended)).record? a.id = some (peerRecord .suspended) ∧
      (holding (peerRecord .suspended)).voterResumeReason a.id = none ∧
      ({ holding (peerRecord .suspended) with fence := (fencedBy .line true).fence } :
        State).voterResumeReason a.id = some Reason.fenced ∧
      (peerRecord .held).state ≠ .suspended ∧ admittedAll.record? a.id = none) ∧
    (∃ a, read 0 0x0001 .resume .actuate 7 = some a ∧
      (holding (ownRecord .suspended)).standing a.id = .here (ownRecord .suspended) atRest ∧
      (holding (ownRecord .suspended)).resumeReason .actuate = none ∧
      (holding (ownRecord .suspended)).resumeReason .reprogram = some Reason.condition ∧
      (holdingWith .suspended fun q => { q with ending := true }).standing a.id ≠ .absent) ∧
    (holding { ownRecord .suspended with scope := 1 }).standing 1 =
      .here { ownRecord .suspended with scope := 1 } atRest :=
  ⟨⟨_, rfl, by decide +kernel⟩, ⟨_, rfl, by decide +kernel⟩, rfl⟩

/-- A vote for a claim. -/
def voteBytes (id : ClaimId) (k : AnnounceKind) : List Byte := votePayload id k Reason.conflict

theorem test_vote_heads (s : State) (h : s.phase = .running) (hc : s.config = exampleSettings) :
    (fromGuard s .consent false 1 (voteBytes 1 .fresh)).guardHead .consent false 1 (voteBytes 1 .fresh) [] ∧
    (fromGuard s .object false 2 (voteBytes 1 .resume)).guardHead .object false 2 (voteBytes 1 .resume) [] :=
  ⟨fromGuard_head _ _ _ _ _ h (by decide) (.inr (by rw [hc]; decide)),
    fromGuard_head _ _ _ _ _ h (by decide) (.inr (by rw [hc]; decide))⟩

/-- A vote for a claim of another home, for none, from outside the scope; late, current, and the last
consent of a PENDING and of a RESUMING record. -/
theorem test_votes_hypotheses :
    homeOf (word16At (voteBytes 0x1001 .fresh) 0) ≠ 0 ∧ homeOf (word16At (voteBytes 1 .fresh) 0) = 0 ∧
    admittedAll.record? 1 = none ∧ inSet 3 (ownRecord .pending).scope = false ∧
    (holding (ownRecord .pending)).standing 1 = .here (ownRecord .pending) atRest ∧
    undecided (ownRecord .pending) atRest = true ∧ undecided (ownRecord .held) atRest = false ∧
    (voteMatches (voteBytes 1 .fresh) (ownRecord .pending) = true ∧
      voteMatches (voteBytes 1 .resume) (ownRecord .pending) = false ∧
      voteMatches (voteBytes 1 .resume) (ownRecord .resuming) = true) ∧
    atRest.consentSet ||| onlyDomain 1 ≠ 7 ∧ 5#12 ||| onlyDomain 1 = 7 := by
  decide +kernel

theorem test_verdict_heads (s : State) (o : VerdictOutcome) (h : s.phase = .running)
    (hc : s.config = exampleSettings) :
    (fromGuard s .verdict true 0 (verdictPayload 1 o 0)).guardHead .verdict true 0
      (verdictPayload 1 o 0) [] ∧
    (fromGuard s .verdict false 1 (verdictPayload 0x1001 o 0)).guardHead .verdict false 1
      (verdictPayload 0x1001 o 0) [] ∧
    (fromGuard s .cancel false 1 (claimReasonPayload 1 9)).guardHead .cancel false 1
      (claimReasonPayload 1 9) [] ∧
    (fromGuard s .cancel true 0 (claimReasonPayload 0x1001 9)).guardHead .cancel true 0
      (claimReasonPayload 0x1001 9) [] ∧
    (fromGuard s .breakClaim true 0 (claimReasonPayload 1 9)).guardHead .breakClaim true 0
      (claimReasonPayload 1 9) [] ∧
    (fromGuard s .endClaim false 1 (claimReasonPayload 0x1001 1)).guardHead .endClaim false 1
      (claimReasonPayload 0x1001 1) [] :=
  ⟨fromGuard_head _ _ _ _ _ h (by cases o <;> decide) (.inl (by rw [hc]; decide)),
    fromGuard_head _ _ _ _ _ h (by cases o <;> decide) (.inr (by rw [hc]; decide)),
    fromGuard_head _ _ _ _ _ h (by decide) (.inr (by rw [hc]; decide)),
    fromGuard_head _ _ _ _ _ h (by decide) (.inl (by rw [hc]; decide)),
    fromGuard_head _ _ _ _ _ h (by decide) (.inl (by rw [hc]; decide)),
    fromGuard_head _ _ _ _ _ h (by decide) (.inr (by rw [hc]; decide))⟩

/-- Each outcome, none; and a record of every state, with and without a sponsor part. -/
theorem test_verdict_hypotheses :
    verdictOutcomeAt (verdictPayload 1 .granted 0) = some .granted ∧
    verdictOutcomeAt (verdictPayload 1 .lapsed 0) = some .lapsed ∧ verdictOutcomeAt [0, 1, 5, 0] = none ∧
    homeOf (word16At (verdictPayload 1 .granted 0) 0) = 0 ∧
    (∀ x ∈ [ClaimState.pending, .held, .suspended, .resuming],
      (holding (ownRecord x)).record? 1 = some (ownRecord x) ∧ (ownRecord x).sponsor = some atRest ∧
      (holding (peerRecord x)).record? 0x1001 = some (peerRecord x) ∧ (peerRecord x).sponsor = none ∧
      (ownRecord x).state = x ∧ (peerRecord x).state = x ∧ inSet 1 (ownRecord x).scope = true) ∧
    admittedAll.record? 1 = none := by decide +kernel

theorem test_breakAndEnd_hypotheses :
    endReasonOk Reason.released = true ∧ endReasonOk Reason.condition = false ∧
    inSet 2 (peerRecord .held).scope = false ∧
    operating.delivery.service = some (inService .actuate 1) := by decide +kernel

/-- A CLAIM refused at each check of R94 in turn. -/
theorem test_claim_order :
    (memberIn .resync []).judgeClaim 0 4 = .inl Reason.notReady ∧
    member.judgeClaim 0 4 = .inl Reason.notAdmitted ∧
    admittedAll.judgeClaim 0 2 = .inl Reason.capability ∧
    ({ admittedAll with fence := { admittedAll.fence with fenced := true } } : State).judgeClaim 0 4 =
      .inl Reason.fenced ∧
    ({ admittedAll with hold := ⟨List.replicate 4 (ownRecord .held), [], 0⟩ } : State).judgeClaim 0 4 =
      .inl Reason.claimLimit ∧
    ({ admittedAll with membership := { admittedAll.membership with
      roster := admittedAll.membership.roster.set 2 ⟨.foreign, none, none, none⟩ } } : State).judgeClaim
        0 4 = .inl Reason.mismatch ∧
    admittedAll.judgeClaim 0 7 = .inl Reason.condition ∧
    ({ admittedAll with hold := ⟨List.replicate 24 (peerRecord .held), [], 0⟩ } : State).judgeClaim 0 4 =
      .inl Reason.tableFull ∧
    (holding (ownRecord .held)).judgeClaim 0 4 = .inl Reason.conflict := by decide +kernel

/-! ## States that meet the hypotheses: held claims and admissions -/

theorem test_claimFrame_heads (s : State) (k : FrameKind) (h : s.phase = .running)
    (hk : k ∈ [FrameKind.renew, .release, .resume, .continueClaim]) :
    (fromTester s k 0 [0, 1]).testerHead k 0 [0, 1] [] :=
  fromTester_head _ _ _ _ h (by simp at hk; rcases hk with rfl | rfl | rfl | rfl <;> decide)

/-- ENDING set and clear, the credit spent and given; a RESUME refused and one allowed; a tester not
admitted and a claim of another tester. -/
theorem test_claimFrames_hypotheses :
    admittedAll.admitted 0 = true ∧ member.admitted 0 = false ∧
    (∀ x ∈ [ClaimState.pending, .held, .suspended, .resuming],
      (holding (ownRecord x)).standing 1 = .here (ownRecord x) atRest) ∧
    atRest.ending = false ∧ atRest.credit = true ∧
    (holdingWith .held fun q => { q with ending := true, credit := false }).standing 1 =
      .here ((ownRecord .held).onSponsor fun q => { q with ending := true, credit := false })
        { atRest with ending := true, credit := false } ∧
    admittedAll.resumeRefusal (ownRecord .suspended) atRest = none ∧
    admittedAll.resumeRefusal (ownRecord .held) { atRest with ending := true } =
      some Reason.claimNotHeld ∧
    admittedAll.resumeRefusal (ownRecord .held) atRest = some Reason.already ∧
    (ownRecord .held).tester ≠ 1 := by decide +kernel

/-- At the end of its tester's admission a request in service is orphaned; under a stop order the order
keeps the marking, and the settled stop offers no RESULT, where else it offers one. -/
theorem test_orphaned_mark :
    (operating.endAdmission 0 .left).delivery.service.map (fun v => v.orphaned) = some true ∧
    (let s := (stopping .abort).endAdmission 0 .left
     s.delivery.service.map (fun v => v.orphaned) = some false ∧
     s.fence.stop.map (fun o => o.testerGone) = some true ∧
     (s.stopDone (inService .actuate 1).tag).fence.stop = none ∧
     (s.stopDone (inService .actuate 1).tag).bus = s.bus ∧
     ((stopping .abort).stopDone (inService .actuate 1).tag).bus ≠ (stopping .abort).bus ∧
     (stopping .abort).fence.stop.map (fun o => (o.tester, o.testerGone)) = some (0, false)) := by
  decide +kernel

def ticketBody : List Byte :=
  [1, 0, 0, 0, 6, 0, 0, 0, 9, 0xDE, 0xAD, 0xBE, 0xEF, 0xF0, 0, 0x10, 0, 1, 0, 60]

def ticketBytes : List Byte := ticketBody ++ cmac checkKey ticketBody

/-- A ticket that passes, one already held, and one whose check fails; a tester to end. -/
theorem test_admit_hypotheses :
    36 ≤ ticketBytes.length ∧ member.judgeTicket 0 ticketBytes = Reason.ok ∧
    (after .admitPassage (fromTester member .admitTicket 0 ticketBytes)).judgeTicket 0 ticketBytes =
      Reason.already ∧
    member.judgeTicket 0 (ticketBytes.set 35 0) = Reason.badTicket := by decide +kernel

theorem test_admit_head (h : 36 ≤ ticketBytes.length) :
    (fromTester member .admitTicket 0 ticketBytes).testerHead .admitTicket 0 ticketBytes [] :=
  fromTester_head _ _ _ _ rfl h

theorem test_admissionEnds_hypotheses :
    (fromTester busy .leave 1 []).testerHead .leave 1 [] [] ∧ (busy.ticket 1).isSome = true ∧
    busy.admitted 0 = true ∧ member.admitted 0 = false ∧ busy.hold.ascending = true ∧
    busy.hold.view = [ownRecord .held] ∧ (ownRecord .held).tester = 0 :=
  ⟨fromTester_head _ _ _ _ rfl (by decide), by decide +kernel⟩

/-! ## States that meet the hypotheses: requests -/

/-- A read of 60 bytes in two segments, and one of 1 byte, by their first segment. -/
def firstBytes (total : Nat) : List Byte := 3 :: nat16 total ++ bytes16 noClaim ++ [0x45]

def refusalOf (s : State) (p : List Byte) : Option Byte :=
  match s.judgeRequest 0 p with
  | .inl (r, _) => some r
  | .inr _ => none

theorem test_reqFirst_hypotheses :
    (fromTester admittedAll .reqFirst 0 (firstBytes 60)).testerHead .reqFirst 0 (firstBytes 60) [] ∧
    (∃ e, admittedAll.judgeRequest 0 (firstBytes 60) = .inr e) ∧
    lastSegment (word16At (firstBytes 60) 1).toNat = 1 ∧
    lastSegment (word16At (firstBytes 59) 1).toNat = 0 ∧
    refusalOf admittedAll (firstBytes 59) = none ∧
    refusalOf member (firstBytes 60) = some Reason.notAdmitted ∧
    refusalOf admittedAll (firstBytes 4096) = some Reason.tooLong ∧
    admittedAll.memory.lanes[(0 : Tester)] = .free :=
  ⟨fromTester_head _ _ _ _ rfl (by decide), ⟨_, rfl⟩, by decide +kernel⟩

/-- An assembly of tester 0 with one segment to come. -/
def assembly : Assembly :=
  ⟨3, 60, noClaim, .readFaults, 1, .deliver, 0x45 :: List.replicate 58 0, 1, 1, ⟨0, 1000⟩⟩

def withLane (l : Lane) : State := admittedAll.setLane 0 l

/-- A standing reply that fits, one that does not, and none; a refusal at completion. -/
theorem test_completion_hypotheses :
    (({ admittedAll with slots := admittedAll.slots.set 3 (.loaded [1, 2]) } : State).slots[(3 : Fin 4)] =
      .loaded [1, 2]) ∧
    blocksFor 2 ≤ 95 + blocksFor 60 ∧ ¬ 0 + blocksFor 60 ≥ blocksFor 256 ∧
    admittedAll.slots[(3 : Fin 4)] = .empty ∧ assembly.disposition = .deliver ∧
    admittedAll.completionRefusal 0 assembly = none ∧
    admittedAll.completionRefusal 0 { assembly with claim := 1 } = some Reason.claimNotHeld := by
  decide +kernel

/-- A segment that completes, one that does not, one out of sequence; the last and another segment of a
request being discarded. -/
theorem test_reqNext_hypotheses :
    (∀ x, (fromTester (withLane x) .reqNext 0 [3, 1]).testerHead .reqNext 0 [3, 1] []) ∧
    (withLane (.assembling assembly)).memory.lanes[(0 : Tester)] = .assembling assembly ∧
    (assembly.tag = byteAt [3, 1] 0 ∧ (byteAt [3, 1] 1).toNat = assembly.nextIndex ∧
      (byteAt [3, 2] 1).toNat ≠ assembly.nextIndex ∧ assembly.tag ≠ byteAt [4, 1] 0) ∧
    assembly.total ≤ assembly.data.length + (takeZero [3, 1] 2 1).length ∧
    (withLane (.discarding 3 1 ⟨0, 1000⟩)).memory.lanes[(0 : Tester)] = .discarding 3 1 ⟨0, 1000⟩ :=
  ⟨fun _ => fromTester_head _ _ _ _ rfl (by decide), by decide +kernel⟩

theorem test_abort_hypotheses :
    (∀ x, (fromTester (withLane x) .abortReq 0 [3]).testerHead .abortReq 0 [3] []) ∧
    (queueing admittedAll [readEntry]).queued? 0 3 = some readEntry ∧ admittedAll.queued? 0 3 = none ∧
    (operating.delivery.service = some (inService .actuate 1) ∧ operating.fence.stop = none ∧
      (stopping .abort).fence.stop ≠ none ∧ reading.delivery.service.isSome = true ∧
      (inService .actuate 1).tag = 5 ∧ (inService .actuate 1).orphaned = false) :=
  ⟨fun _ => fromTester_head _ _ _ _ rfl (by decide), by decide +kernel⟩

/-- A query granted, refused for its range and for its selector; a full reply list, a pool without room. -/
theorem test_query_hypotheses :
    (fromTester admittedAll .query 0 [5, 1, 1, 0xFF, 32]).testerHead .query 0 [5, 1, 1, 0xFF, 32] [] ∧
    admittedAll.queryRefusal 0 [5, 1, 1, 0xFF, 32] = none ∧
    (admittedAll.queryRefusal 0 [5, 1, 2, 0, 32]).isSome = true ∧
    (admittedAll.queryRefusal 0 [5, 1, 1, 0xFF, 33]).isSome = true ∧
    (admittedAll.queryRefusal 0 [9, 1, 0, 0, 0]).isSome = true ∧ Selector.ofCode 9 = none ∧
    Selector.ofCode 8 = some .capture ∧ Selector.ofCode 1 = some .status ∧
    admittedAll.memory.replies.length < 16 ∧ blocksFor 206 ≤ admittedAll.memory.free ∧
    (trailIn .frozen).trail.mode ≠ .recording :=
  ⟨fromTester_head _ _ _ _ rfl (by decide), by decide +kernel⟩

/-! ## States that meet the hypotheses: expiries and the ECU link -/

/-- Every timer of the statements runs; one not yet due, one due. -/
theorem test_expiries_hypotheses :
    (operating.phase = .running ∧ (inService .actuate 1).limit = some ⟨100, 2000⟩) ∧
    (inService .readFaults noClaim).cls.effecting = false ∧
    (stopping .abort).fence.stop.isSome = true ∧
    (holdingWith .pending fun q => { q with window := some ⟨0, 250⟩ }).standing 1 ≠ .absent ∧
    atRest.leaseTimer = some ⟨0, 300000⟩ ∧ (peerRecord .pending).holdTimer = some ⟨0, 750⟩ ∧
    ((peerRecord .pending).consented = true ∧ (peerRecord .pending).cancelSent = false) ∧
    (operating.guardTime - 100#32).toNat < 2000 ∧ 0 ≤ (operating.guardTime - 100#32).toNat := by
  decide +kernel

/-- Each timer of the statements ends soonest in some state; one does not. -/
theorem test_soonest_hypotheses :
    operating.soonest ⟨100, 2000⟩ = true ∧
    ((stopping .abort).fence.stop.map fun o => (stopping .abort).soonest o.limit) = some true ∧
    (holdingWith .pending fun q => { q with window := some ⟨0, 250⟩ }).soonest ⟨0, 250⟩ = true ∧
    (holding (peerRecord .pending)).soonest ⟨0, 750⟩ = true ∧
    ({ holding (ownRecord .held) with admissions := member.admissions } : State).soonest
      ⟨0, 300000⟩ = true ∧
    (queueing admittedAll [readEntry]).soonest readEntry.wait = true ∧
    (withLane (.assembling assembly)).soonest assembly.gap = true ∧
    (withLane (.discarding 3 1 ⟨0, 1000⟩)).soonest ⟨0, 1000⟩ = true ∧
    admittedAll.soonest ⟨0, 30000⟩ = true ∧ admittedAll.soonest ⟨0, 60000⟩ = false ∧
    (member.setAdmission 0 ⟨some ⟨[], 5, 9, 0x3FF, 7, ⟨0, 20000⟩, ⟨0, 30000⟩⟩, .none⟩).soonest
      ⟨0, 20000⟩ = true := by decide +kernel

/-- NOT_READY as it goes out on LSDO, three bytes before it is ready; undriven while RESET is asserted. -/
theorem test_lsdo :
    (after (.take []) State.reset).lsdo 3 = some [0xFF, 0xFF, 0xFF, 0x06, 0x00, 0x00, 0x7D] ∧
    (after .resetAsserted member).lsdo 3 = none := by decide +kernel

theorem test_link_hypotheses :
    State.reset.phase = .starting ∧ (after .attemptFailed { State.reset with loader := .reading 2 }).phase =
      .unconfigured ∧ (∃ k, (after .resetAsserted member).phase = .held k) ∧ member.phase = .running ∧
    (∃ m, Instr.unknownCommandCode m = .unknownCommandCode m ∧
      commandOfMessage m = .unknownCommandCode m) :=
  ⟨rfl, by decide +kernel, ⟨_, rfl⟩, rfl, ⟨linkFrame 0x0A [], rfl, by decide +kernel⟩⟩

theorem test_take_hypotheses :
    (stopping .abort).fence.stop ≠ none ∧ (member.fence.stop = none ∧ member.arbiter = none) ∧
    (queueing admittedAll [readEntry]).arbiter = some readEntry ∧
    (queueing (holding (ownRecord .held)) [actuateEntry]).arbiter = some actuateEntry ∧
    (queueing (holding (ownRecord .held)) [actuateEntry]).effectingNamed = true ∧
    (word16At [0, 0, 1, 0] 2).toNat = 256 ∧ (word16At [0, 0, 1, 1] 2).toNat = 257 := by decide +kernel

/-- An answer in progress, with INTERIMs left and none; the longest answer; a reply list of 15 and 16. -/
theorem test_post_hypotheses :
    reading.delivery.service = some (inService .readFaults noClaim) ∧
    (stopping .abort).fence.stop.isSome = true ∧ exampleSettings.timing.extensionsMax = 2 ∧
    4094 + 1 ≤ 4095 ∧ blocksFor (0 + 255) - blocksFor 0 ≤ reading.memory.free ∧
    (serving admittedAll { inService .readFaults noClaim with orphaned := true, interims := 2 }
      ).delivery.service.isSome = true ∧
    (reading.onMemory fun m =>
      { m with replies := List.replicate 16 ⟨2, 1, .ecu, .identify, [1], 0⟩ }).memory.replies.length = 16 := by
  decide +kernel

theorem test_stopDone_hypotheses :
    (∃ o, (stopping .abort).fence.stop = some o ∧ o.tag = 5 ∧ o.tag ≠ 4) ∧ operating.fence.stop = none :=
  ⟨⟨_, rfl, by decide +kernel⟩, rfl⟩

/-- Every clause of the slot table at its boundary: slot 3 and 4, 256 and 257 bytes, a chunk that ends at
the length and one byte past it, an empty slot, one of the same length and one of another. -/
theorem test_slot_hypotheses :
    (3#8).toNat = (3 : Fin 4).val ∧ 3 < (4#8).toNat ∧ (256#16).toNat ≤ 256 ∧ 256 < (257#16).toNat ∧
    (6#16).toNat + 250 ≤ (256#16).toNat ∧ (256#16).toNat < (6#16).toNat + 251 ∧
    member.slots[(3 : Fin 4)] = .empty ∧
    (after (.slotLoad (3 :: bytes16 2 ++ bytes16 1 ++ [7])) member).slots[(3 : Fin 4)] =
      .loaded [0, 7] := by decide +kernel

end Sys2Proof.Tests
end

