-- ==== Sys2Proof/Proofs/ClaimFrames.lean ====
section
/-!
PROOF. Tester frames that name a claim: what passes the two checks of R115, and the RENEW (R116).
-/

namespace Sys2Proof.Machine

/-! ## The checks of R115 passed -/

/-- An admitted tester's frame that names its own claim homed here is judged by the rule of its kind
(R115). -/
theorem State.claimFrame_of_here {s : State} {t : Tester} {p : List Byte} {r : Record} {q : Sponsor}
    (ha : s.admitted t = true) (hr : s.standing (word16At p 0) = .here r q) (ht : r.tester = t)
    (k : FrameKind) (act : Record → Sponsor → State → State) :
    s.claimFrame k t p act = act r q s := by
  simp [State.claimFrame, ha, hr, ht]

/-- The same as a passage: the checks are made on the state that the frame has left, and the pop and the
quiet refresh touch neither admission nor standing. -/
theorem State.claimFramePassage_of_here {s : State} {k : FrameKind} {t : Tester} {p : List Byte}
    {rest : List RxEntry} {r : Record} {q : Sponsor} (hh : s.testerHead k t p rest)
    (ha : s.admitted t = true) (hr : s.standing (word16At p 0) = .here r q) (ht : r.tester = t)
    (act : Record → Sponsor → State → State) :
    (s.testerPassage k everyPayload fun t p s => s.claimFrame k t p act) =
      act r q (s.afterTesterHead t) := by
  rw [State.testerPassage_every hh]
  exact State.claimFrame_of_here (by simpa using ha) (by simpa using hr) ht k act

/-! ## RENEW (R116) -/

/-- A RENEW of an ENDING or PENDING claim has no effect and is answered CLAIM_NOT_HELD (R116). -/
theorem State.renewClaim_of_notRenewable (s : State) {r : Record} {q : Sponsor}
    (h : q.ending = true ∨ r.state = .pending) :
    s.renewClaim r q = s.reportClaim r q r.state.code Reason.claimNotHeld := by
  unfold State.renewClaim
  exact if_pos (by simpa using h)

/-- A RENEW of any other claim restarts its lease timer now, for the granted lease, and is answered OK
(R116, R118). -/
theorem State.renewClaim_of_renewable (s : State) {r : Record} {q : Sponsor}
    (he : q.ending = false) (hs : r.state ≠ .pending) :
    s.renewClaim r q =
      (s.updateSponsor r.id fun y =>
        { y with leaseTimer := some (s.startTimer (1000 * q.lease)) }).reportClaim r q
          r.state.code Reason.ok := by
  unfold State.renewClaim
  exact if_neg (by simpa [he] using hs)

/-- A RENEW that passes R115 is judged by the record's state, on the state that the frame has left. -/
theorem exec_renewPassage_of_here {s : State} {t : Tester} {p : List Byte} {rest : List RxEntry}
    {r : Record} {q : Sponsor} (hh : s.testerHead .renew t p rest) (ha : s.admitted t = true)
    (hr : s.standing (word16At p 0) = .here r q) (ht : r.tester = t) :
    exec .renewPassage s = .next ((s.afterTesterHead t).renewClaim r q).drive :=
  congrArg finish (State.claimFramePassage_of_here hh ha hr ht fun r q s => s.renewClaim r q)

/-- Settles O42, by the two rows of R116 that differ in effect: the state the frame has left shows the same
guard time, so the restarted lease runs from the passage. -/
theorem renewPassage : Obligations.RenewPassage := by
  unfold Obligations.RenewPassage
  intro s t p rest r q hh ha hr ht u
  rw [exec_renewPassage_of_here hh ha hr ht]
  constructor
  case left =>
    intro hnot
    rw [State.renewClaim_of_notRenewable _ hnot]
  case right =>
    intro he hs
    have hpending : r.state ≠ .pending := by
      rcases hs with hs | hs | hs <;> simp [hs]
    have htime : (s.afterTesterHead t).guardTime = s.guardTime := by simp
    rw [State.renewClaim_of_renewable _ he hpending, State.startTimer, htime]

end Sys2Proof.Machine
end

/-!
PROOF. The link commands whose data length fits (R177, R178), and STOP_DONE (R162).
-/

namespace Sys2Proof.Machine

/-! ## A command that passes the two checks of the link -/

/-- Once the image is accepted, a command whose data length fits is judged under its own rule
(R177, R178). -/
theorem State.takeWithLength_of_fits {s : State} {data : List Byte} {lo hi : Nat}
    (hrun : s.phase = .running) (hlo : lo ≤ data.length) (hhi : data.length ≤ hi)
    (act : State → State) : s.takeWithLength data lo hi act = act s := by
  simp [State.takeWithLength, State.takeCommand, hrun, hlo, hhi]

/-! ## STOP_DONE (R162) -/

/-- With a stop order of the command's tag outstanding, the stop of the request in service settles as
ACKNOWLEDGED and the answer is OK (R162, first row). -/
theorem State.stopDone_of_tag_eq {s : State} {o : StopOrder} {v : Service} {tag : Byte}
    (ho : s.fence.stop = some o) (hv : s.delivery.service = some v) (htag : o.tag = tag) :
    s.stopDone tag = (s.settleStop o v .acknowledged).respond .ok [] := by
  simp [State.stopDone, ho, hv, htag]

/-- A stop order of another tag is left as it is, whatever the service slot holds (R162, second row). -/
theorem State.stopDone_of_tag_ne {s : State} {o : StopOrder} {tag : Byte}
    (ho : s.fence.stop = some o) (htag : o.tag ≠ tag) :
    s.stopDone tag = s.respond .stale [] := by
  cases hv : s.delivery.service with
  | none => simp [State.stopDone, ho, hv]
  | some v => simp [State.stopDone, ho, hv, htag]

/-- Without an outstanding stop order the answer is STALE (R162, third row). -/
theorem State.stopDone_of_no_stop {s : State} (ho : s.fence.stop = none) (tag : Byte) :
    s.stopDone tag = s.respond .stale [] := by
  simp [State.stopDone, ho]

/-- A STOP_DONE of one byte of data is judged by the table of R162 for the tag in that byte. -/
theorem exec_stopDone_of_running {s : State} (hrun : s.phase = .running) (tag : Byte) :
    exec (.stopDone [tag]) s = .next (s.stopDone tag).drive :=
  congrArg finish
    (State.takeWithLength_of_fits hrun (le_refl 1) (le_refl 1) fun s => s.stopDone tag)

/-- Settles O56, by the three rows of R162. -/
theorem stopDone : Obligations.StopDone := by
  unfold Obligations.StopDone
  intro s tag hrun
  rw [exec_stopDone_of_running hrun tag]
  refine ⟨fun o v ho hv htag => ?sameTag, fun o ho htag => ?otherTag, fun ho => ?noStop⟩
  case sameTag => rw [State.stopDone_of_tag_eq ho hv htag]
  case otherTag => rw [State.stopDone_of_tag_ne ho htag]
  case noStop => rw [State.stopDone_of_no_stop ho tag]

end Sys2Proof.Machine

/-!
PROOF. SLOT_LOAD and SLOT_CLEAR (R184, R185), and STATUS (R186).
-/

namespace Sys2Proof.Machine

/-! ## The data of a SLOT_LOAD -/

/-- The data of a SLOT_LOAD: slot, length and offset before the chunk (R184). -/
def slotLoadData (k : Byte) (n o : BitVec 16) (b : List Byte) : List Byte :=
  k :: bytes16 n ++ bytes16 o ++ b

/-- The two bytes that a word is sent as make the word again. -/
theorem append_bytes_of_word16 (w : BitVec 16) : w.extractLsb' 8 8 ++ w.extractLsb' 0 8 = w :=
  (BitVec.extractLsb'_append_extractLsb'_eq_extractLsb' (Nat.zero_add 8).symm).trans
    BitVec.extractLsb'_eq_self

section
variable (k : Byte) (n o : BitVec 16) (b : List Byte)

@[simp] theorem slotLoadData_length : (slotLoadData k n o b).length = b.length + 5 := by
  simp [slotLoadData, bytes16]

@[simp] theorem slotLoadData_slot : byteAt (slotLoadData k n o b) 0 = k := rfl

@[simp] theorem slotLoadData_total : word16At (slotLoadData k n o b) 1 = n :=
  append_bytes_of_word16 n

@[simp] theorem slotLoadData_offset : word16At (slotLoadData k n o b) 3 = o :=
  append_bytes_of_word16 o

@[simp] theorem slotLoadData_chunk : (slotLoadData k n o b).drop 5 = b := rfl

end

/-! ## The slot named and its next content (R184) -/

theorem slotOf_of_lt {k : Byte} (h : 3 < k.toNat) : slotOf k = none :=
  dif_neg (by omega)

theorem slotOf_of_eq {k : Byte} {x : Fin 4} (h : k.toNat = x.val) : slotOf k = some x := by
  have hlt : k.toNat < 4 := h ▸ x.isLt
  exact (dif_pos hlt).trans (congrArg some (Fin.ext h))

/-- A chunk written over zeros leaves zeros on both its sides. -/
theorem writeAt_zeros {n o : Nat} {b : List Byte} (h : o + b.length ≤ n) :
    writeAt (List.replicate n 0x00#8) b o =
      List.replicate o 0x00#8 ++ b ++ List.replicate (n - o - b.length) 0x00#8 := by
  have hbefore : min o n = o := by omega
  have hafter : n - (o + b.length) = n - o - b.length := by omega
  rw [writeAt, List.take_replicate, List.drop_replicate, hbefore, hafter]

/-- A length above 256 and a chunk past the length are ILLEGAL for any slot. -/
theorem loadSlot_of_out_of_range {n o : Nat} {b : List Byte} (h : 256 < n ∨ n < o + b.length)
    (y : Slot) : loadSlot y n o b = none :=
  if_pos h

section
variable {n o : Nat} {b : List Byte}

/-- An EMPTY slot becomes LOADED, with zeros around the chunk. -/
theorem loadSlot_empty (hn : n ≤ 256) (ho : o + b.length ≤ n) :
    loadSlot .empty n o b = some (.loaded
      (List.replicate o 0x00#8 ++ b ++ List.replicate (n - o - b.length) 0x00#8)) := by
  rw [← writeAt_zeros ho]
  exact if_neg (by omega)

/-- A LOADED slot refuses another length than its own. -/
theorem loadSlot_loaded_of_length_ne {content : List Byte} (hlen : content.length ≠ n) :
    loadSlot (.loaded content) n o b = none := by
  simp [loadSlot, hlen]

/-- A LOADED slot of the same length takes the chunk. -/
theorem loadSlot_loaded_of_length_eq {content : List Byte} (hn : n ≤ 256) (ho : o + b.length ≤ n)
    (hlen : content.length = n) :
    loadSlot (.loaded content) n o b = some (.loaded
      (content.take o ++ b ++ content.drop (o + b.length))) := by
  have hrange : ¬(256 < n ∨ n < o + b.length) := by omega
  simp [loadSlot, writeAt, hrange, hlen]

end

/-! ## SLOT_LOAD (R184) -/

section
variable {s : State} {k : Byte} {n o : BitVec 16} {b : List Byte}

theorem State.slotLoad_of_no_slot (hk : slotOf k = none) :
    s.slotLoad (slotLoadData k n o b) = s.respond .illegal [] := by
  simp [State.slotLoad, hk]

/-- A SLOT_LOAD of one of the four slots is answered by what `loadSlot` makes of that slot. -/
theorem State.slotLoad_of_slot {x : Fin 4} (hk : slotOf k = some x) :
    s.slotLoad (slotLoadData k n o b) =
      (loadSlot s.slots[x] n.toNat o.toNat b).elim (s.respond .illegal [])
        fun y => (s.setSlot x y).respond .ok [] := by
  simp only [State.slotLoad, slotLoadData_slot, slotLoadData_total, slotLoadData_offset,
    slotLoadData_chunk, hk]
  cases loadSlot s.slots[x] n.toNat o.toNat b <;> rfl

theorem State.slotLoad_of_refused {x : Fin 4} (hk : slotOf k = some x)
    (hl : loadSlot s.slots[x] n.toNat o.toNat b = none) :
    s.slotLoad (slotLoadData k n o b) = s.respond .illegal [] := by
  rw [State.slotLoad_of_slot hk, hl, Option.elim_none]

theorem State.slotLoad_of_loaded {x : Fin 4} {y : Slot} (hk : slotOf k = some x)
    (hl : loadSlot s.slots[x] n.toNat o.toNat b = some y) :
    s.slotLoad (slotLoadData k n o b) = (s.setSlot x y).respond .ok [] := by
  rw [State.slotLoad_of_slot hk, hl, Option.elim_some]

/-- The ILLEGAL cases that do not depend on what the slot holds. -/
theorem State.slotLoad_of_out_of_range
    (h : 3 < k.toNat ∨ 256 < n.toNat ∨ n.toNat < o.toNat + b.length) :
    s.slotLoad (slotLoadData k n o b) = s.respond .illegal [] := by
  rcases h with hslot | hrange
  · exact State.slotLoad_of_no_slot (slotOf_of_lt hslot)
  · cases hk : slotOf k with
    | none => exact State.slotLoad_of_no_slot hk
    | some x => exact State.slotLoad_of_refused hk (loadSlot_of_out_of_range hrange _)

/-- A SLOT_LOAD of at most 251 chunk bytes has a data length that fits, and is judged by R184. -/
theorem exec_slotLoad_of_running (hrun : s.phase = .running) (hb : b.length ≤ 251) :
    exec (.slotLoad (slotLoadData k n o b)) s =
      .next (s.slotLoad (slotLoadData k n o b)).drive :=
  congrArg finish (State.takeWithLength_of_fits hrun (by simp) (by simp; omega) fun s =>
    s.slotLoad (slotLoadData k n o b))

end

/-! ## SLOT_CLEAR (R185) -/

theorem State.slotClear_of_lt {s : State} {k : Byte} (h : 3 < k.toNat) :
    s.slotClear [k] = s.respond .illegal [] := by
  simp [State.slotClear, byteAt, slotOf_of_lt h]

theorem State.slotClear_of_eq {s : State} {k : Byte} {x : Fin 4} (h : k.toNat = x.val) :
    s.slotClear [k] = (s.setSlot x .empty).respond .ok [] := by
  simp [State.slotClear, byteAt, slotOf_of_eq h]

/-- A SLOT_CLEAR of one byte of data is judged by R185 for the slot in that byte. -/
theorem exec_slotClear_of_running {s : State} (hrun : s.phase = .running) (k : Byte) :
    exec (.slotClear [k]) s = .next (s.slotClear [k]).drive :=
  congrArg finish
    (State.takeWithLength_of_fits hrun (le_refl 1) (le_refl 1) fun s => s.slotClear [k])

/-- Settles O59, by the rows of R184 and of R185: the slot named is looked up first, and what it
holds decides between the rows of a SLOT_LOAD in range. -/
theorem slotCommands : Obligations.SlotCommands := by
  unfold Obligations.SlotCommands
  intro s k n o b hrun hb load illegal answered
  have hload : load = .next (s.slotLoad (slotLoadData k n o b)).drive :=
    exec_slotLoad_of_running hrun hb
  rw [hload, exec_slotClear_of_running hrun k]
  refine ⟨fun hout => ?outOfRange, fun x hx hn ho => ⟨fun hslot => ?empty,
    fun content hslot hlen => ?otherLength, fun content hslot hlen => ?sameLength⟩,
    fun hk => ?clearNoSlot, fun x hx => ?clear⟩
  case outOfRange =>
    rw [State.slotLoad_of_out_of_range hout]
    rfl
  case empty =>
    rw [State.slotLoad_of_loaded (slotOf_of_eq hx) (hslot ▸ loadSlot_empty hn ho)]
    rfl
  case otherLength =>
    rw [State.slotLoad_of_refused (slotOf_of_eq hx) (hslot ▸ loadSlot_loaded_of_length_ne hlen)]
    rfl
  case sameLength =>
    rw [State.slotLoad_of_loaded (slotOf_of_eq hx)
      (hslot ▸ loadSlot_loaded_of_length_eq hn ho hlen)]
    rfl
  case clearNoSlot =>
    rw [State.slotClear_of_lt hk]
    rfl
  case clear =>
    rw [State.slotClear_of_eq hx]
    rfl

/-! ## STATUS (R186) -/

/-- The code of the mark that a stop is outstanding: 0x01 unless there is no stop order. -/
theorem flag8_isSome {α : Type} [DecidableEq α] (x : Option α) :
    flag8 x.isSome = if x = none then 0x00#8 else 0x01#8 := by
  cases x <;> rfl

/-- A STATUS without data is answered OK with the guard's state as it stands. -/
theorem exec_status_of_running {s : State} (hrun : s.phase = .running) :
    exec (.status []) s = .next (s.respond .ok s.statusData).drive :=
  congrArg finish
    (State.takeWithLength_of_fits hrun (le_refl 0) (le_refl 0) fun s => s.respond .ok s.statusData)

/-- Settles O60: the answer is written field by field, and of the fields only the outstanding stop
is not spelled as in the statement. -/
theorem statusCommand : Obligations.StatusCommand := by
  unfold Obligations.StatusCommand
  intro s hrun
  rw [exec_status_of_running hrun, State.statusData, flag8_isSome]
  rfl

end Sys2Proof.Machine

/-!
PROOF. The end of every command (R147, R168, R187), the values at reset, and the step of a command at the
front of the queue.
-/

namespace Sys2Proof.Machine

/-! ## The end of a command -/

section
variable (s : State)

/-- Driving the lines touches nothing but the indication and the two output lines. -/
@[simp] theorem State.drive_keeps :
    s.drive.pending = s.pending ∧ s.drive.guardTime = s.guardTime ∧ s.drive.phase = s.phase ∧
    s.drive.startKind = s.startKind ∧ s.drive.loader = s.loader ∧ s.drive.config = s.config ∧
    s.drive.bus = s.bus ∧ s.drive.membership = s.membership ∧ s.drive.admissions = s.admissions ∧
    s.drive.slots = s.slots ∧ s.drive.hold = s.hold ∧ s.drive.memory = s.memory ∧
    s.drive.fence = s.fence ∧ s.drive.link = s.link ∧ s.drive.trail = s.trail ∧
    s.drive.freeCount = s.freeCount ∧ s.drive.delivery.queue = s.delivery.queue ∧
    s.drive.delivery.lastStamp = s.delivery.lastStamp ∧ s.drive.delivery.service = s.delivery.service := by
  simp [State.drive]

/-- Eligibility is judged on fields that driving the lines leaves alone. -/
@[simp] theorem State.drive_serviceWanted : s.drive.serviceWanted = s.serviceWanted := rfl

/-- Guard time is no matter of eligibility. -/
@[simp] theorem State.setGuardTime_serviceWanted (t : Time) :
    (s.setGuardTime t).serviceWanted = s.serviceWanted := rfl

theorem State.linesFollow_drive : s.drive.linesFollow = true := by
  have wanted : s.drive.delivery.serviceWanted = s.drive.serviceWanted := rfl
  have fault : s.drive.pins.fault = s.drive.faultLevel := rfl
  have attn : s.drive.pins.attn = s.drive.attnLevel := rfl
  simp only [State.linesFollow, wanted, fault, attn, beq_self_eq_true, Bool.and_self]

end

/-- Every command ends by driving the lines for some state its rule gives. -/
theorem exec_eq_drive (c : Instr) (s : State) : ∃ u : State, exec c s = .next u.drive := by
  cases c <;> exact ⟨_, rfl⟩

/-- The lines follow the state after every command, whatever they were before. -/
theorem linesFollow_of_exec {c : Instr} {s t : State} (h : exec c s = .next t) :
    t.linesFollow = true := by
  obtain ⟨u, hu⟩ := exec_eq_drive c s
  obtain rfl : u.drive = t := Host.Outcome.next.inj (hu.symm.trans h)
  exact u.linesFollow_drive

/-- The passing of a millisecond leaves what the lines follow. -/
theorem State.linesFollow_tick {s : State} (h : s.linesFollow = true) : s.tick.linesFollow = true := by
  unfold State.tick
  split
  · exact h
  · exact h

/-- Settles O7: a command drives the lines at its end, and a tick leaves what they follow. -/
theorem linesFollowKept : Obligations.LinesFollowKept := by
  unfold Obligations.LinesFollowKept
  intro s t hs ht
  rcases step_cases s with ⟨c, rest, -, hc⟩ | ⟨c, -, -, hc⟩ | ⟨-, -, hc⟩
  · exact linesFollow_of_exec (hc.symm.trans ht)
  · exact linesFollow_of_exec (hc.symm.trans ht)
  · obtain rfl : s.tick = t := Host.Outcome.next.inj (hc.symm.trans ht)
    exact State.linesFollow_tick hs

/-- Settles O1: a step of a queue with a command at its front is that command's meaning. -/
theorem queueFrontStep : Obligations.QueueFrontStep := by
  unfold Obligations.QueueFrontStep
  intro c rest s
  rfl

/-- A service is wanted just when some queued entry is eligible (R147). -/
theorem State.serviceWanted_iff (s : State) :
    s.serviceWanted = true ↔ ∃ e ∈ s.delivery.queue, s.eligible e = true := by
  simp [State.serviceWanted]

/-- Settles O5, line by line from the levels that R147, R168 and R187 give. -/
theorem linesLevels : Obligations.LinesLevels := by
  unfold Obligations.LinesLevels
  intro s
  refine ⟨?fault, ?wanted, ?attn, rfl⟩
  case fault => simp [State.drive, State.faultLevel]
  case wanted => exact s.serviceWanted_iff
  case attn => simp [State.drive, State.attnLevel, ← State.serviceWanted_iff]

/-! ## The state at reset -/

/-- Settles O4: each field of the state at reset is written out, the tables as constant vectors. -/
theorem resetValues : Obligations.ResetValues := by
  unfold Obligations.ResetValues
  simp [State.reset, Backbone.start, Membership.start, RosterEntry.unheard, Hold.start, Memory.start,
    Delivery.start, Fence.start, Link.start, Conditions.unknown, Trail.start]

/-- Settles O6: at reset the queues, the view and the lanes are empty, so each predicate is about nothing
but the full pool. -/
theorem invariantsAtReset : Obligations.InvariantsAtReset := by
  unfold Obligations.InvariantsAtReset
  refine ⟨?_, ?_, ?_, ?_, ?_, ?_, ?_, ?_, ?_, ?_, ?_, ?_⟩ <;> decide

end Sys2Proof.Machine

/-!
PROOF. The timers that run (R1): which they are, phase by phase, and the command that is each one's expiry.
-/

namespace Sys2Proof.Machine

/-! ## The lists that `runningTimers` joins -/

theorem mem_allTesters (u : Tester) : u ∈ allTesters := by
  revert u; decide

theorem Lane.gap?_eq_some {l : Lane} {tm : Timer} :
    l.gap? = some tm ↔ (∃ x, l = .assembling x ∧ tm = x.gap) ∨ ∃ b n, l = .discarding b n tm := by
  cases l <;> simp [Lane.gap?, eq_comm]

/-- The timers of a tester that run: the two of its ticket and the gap timer of its lane. -/
theorem State.mem_testerTimers {s : State} {u : Tester} {c : Instr} {tm : Timer} :
    (c, tm) ∈ s.testerTimers u ↔
      (∃ k, s.ticket u = some k ∧ (c = .validityTimerExpiry u ∧ tm = k.validity ∨
        c = .quietTimerExpiry u ∧ tm = k.quiet)) ∨
      (c = .gapTimerExpiry u ∧ s.memory.lanes[u].gap? = some tm) := by
  cases hk : s.ticket u <;> simp [State.testerTimers, mem_timerOf, hk, eq_comm (a := tm), or_assoc]

/-- The timers of the delivery unit and the fence unit that run. -/
theorem State.mem_serviceTimers {s : State} {c : Instr} {tm : Timer} :
    (c, tm) ∈ s.serviceTimers ↔
      (∃ e ∈ s.delivery.queue, c = .queueWaitExpiry e.tester e.tag ∧ tm = e.wait) ∨
      (∃ v, s.delivery.service = some v ∧ v.limit = some tm ∧ c = .serviceLimitExpiry) ∨
      (∃ o, s.fence.stop = some o ∧ tm = o.limit ∧ c = .stopLimitExpiry) := by
  cases hv : s.delivery.service <;> cases ho : s.fence.stop <;>
    simp [State.serviceTimers, mem_timerOf, hv, ho, eq_comm, and_comm]

/-- The timers of a claim record that run. -/
theorem Record.mem_timers {r : Record} {c : Instr} {tm : Timer} :
    (c, tm) ∈ r.timers ↔
      (r.holdTimer = some tm ∧ c = .holdTimerExpiry r.id) ∨
        ∃ q, r.sponsor = some q ∧ (q.window = some tm ∧ c = .windowTimerExpiry r.id ∨
          q.leaseTimer = some tm ∧ c = .leaseTimerExpiry r.id) := by
  cases hq : r.sponsor with
  | none => simp [Record.timers, mem_timerOf, hq, and_comm]
  | some q =>
    simp only [Record.timers, List.mem_append, mem_timerOf, hq, Option.bind_some, Option.some.injEq,
      exists_eq_left']
    tauto

/-- The timers that run while the image is accepted, unit by unit. -/
theorem State.mem_runningTimers {s : State} (hp : s.phase = .running) {c : Instr} {tm : Timer} :
    (c, tm) ∈ s.runningTimers ↔
      (∃ u, (c, tm) ∈ s.testerTimers u) ∨ (c, tm) ∈ s.serviceTimers ∨
        ∃ r ∈ s.hold.view, (c, tm) ∈ r.timers := by
  simp [State.runningTimers_running hp, mem_allTesters]

/-- No timer runs while RESET is asserted or after the image was rejected. -/
theorem State.runningTimers_of_idle {s : State} (hr : s.phase ≠ .running) (hs : s.phase ≠ .starting) :
    s.runningTimers = [] := by
  unfold State.runningTimers
  split
  · exact absurd ‹_› hs
  · exact absurd ‹_› hr
  · rfl

/-- A record found by a claim id is a record of the view. -/
theorem State.record?_mem {s : State} {id : ClaimId} {r : Record} (h : s.record? id = some r) :
    r ∈ s.hold.view :=
  List.mem_of_find?_eq_some h

theorem State.sponsor?_eq_some {s : State} {id : ClaimId} {p : Sponsor} :
    s.sponsor? id = some p ↔ ∃ r, s.record? id = some r ∧ r.sponsor = some p := by
  unfold State.sponsor?
  cases s.record? id <;> simp

/-! ## The timer that each expiry names is one that runs -/

/-- A timer that runs, whatever its expiry. -/
def State.runs (s : State) (tm : Timer) : Prop := ∃ c, (c, tm) ∈ s.runningTimers

section
variable {s : State} {tm : Timer}

theorem State.runs_ticket (hp : s.phase = .running) {u : Tester} {k : Ticket}
    (hk : s.ticket u = some k) (h : tm = k.validity ∨ tm = k.quiet) : s.runs tm := by
  rcases h with h | h
  · exact ⟨_, (State.mem_runningTimers hp).mpr (.inl ⟨u, State.mem_testerTimers.mpr
      (.inl ⟨k, hk, .inl ⟨rfl, h⟩⟩)⟩)⟩
  · exact ⟨_, (State.mem_runningTimers hp).mpr (.inl ⟨u, State.mem_testerTimers.mpr
      (.inl ⟨k, hk, .inr ⟨rfl, h⟩⟩)⟩)⟩

theorem State.runs_gap (hp : s.phase = .running) {u : Tester}
    (h : s.memory.lanes[u].gap? = some tm) : s.runs tm :=
  ⟨_, (State.mem_runningTimers hp).mpr (.inl ⟨u, State.mem_testerTimers.mpr (.inr ⟨rfl, h⟩)⟩)⟩

theorem State.runs_wait (hp : s.phase = .running) {e : QueueEntry} (he : e ∈ s.delivery.queue) :
    s.runs e.wait :=
  ⟨_, (State.mem_runningTimers hp).mpr (.inr (.inl (State.mem_serviceTimers.mpr
    (.inl ⟨e, he, rfl, rfl⟩))))⟩

theorem State.runs_limit (hp : s.phase = .running) {v : Service} (hv : s.delivery.service = some v)
    (h : v.limit = some tm) : s.runs tm :=
  ⟨_, (State.mem_runningTimers hp).mpr (.inr (.inl (State.mem_serviceTimers.mpr
    (.inr (.inl ⟨v, hv, h, rfl⟩)))))⟩

theorem State.runs_stop (hp : s.phase = .running) {o : StopOrder} (ho : s.fence.stop = some o) :
    s.runs o.limit :=
  ⟨_, (State.mem_runningTimers hp).mpr (.inr (.inl (State.mem_serviceTimers.mpr
    (.inr (.inr ⟨o, ho, rfl, rfl⟩)))))⟩

theorem State.runs_hold (hp : s.phase = .running) {id : ClaimId} {r : Record}
    (hr : s.record? id = some r) (h : r.holdTimer = some tm) : s.runs tm :=
  ⟨_, (State.mem_runningTimers hp).mpr (.inr (.inr ⟨r, State.record?_mem hr,
    Record.mem_timers.mpr (.inl ⟨h, rfl⟩)⟩))⟩

theorem State.runs_sponsor (hp : s.phase = .running) {id : ClaimId} {p : Sponsor}
    (hq : s.sponsor? id = some p) (h : p.window = some tm ∨ p.leaseTimer = some tm) : s.runs tm := by
  obtain ⟨r, hr, hp'⟩ := State.sponsor?_eq_some.mp hq
  rcases h with h | h
  · exact ⟨_, (State.mem_runningTimers hp).mpr (.inr (.inr ⟨r, State.record?_mem hr,
      Record.mem_timers.mpr (.inr ⟨p, hp', .inl ⟨h, rfl⟩⟩)⟩))⟩
  · exact ⟨_, (State.mem_runningTimers hp).mpr (.inr (.inr ⟨r, State.record?_mem hr,
      Record.mem_timers.mpr (.inr ⟨p, hp', .inr ⟨h, rfl⟩⟩)⟩))⟩

theorem State.runs_loader (hp : s.phase = .starting) {n : Nat} (hl : s.loader = .waiting n tm) :
    s.runs tm :=
  ⟨_, (State.runningTimers_starting hp (_, tm)).mpr ⟨rfl, n, hl⟩⟩

/-- The loader's wait is the only timer that runs while STARTING, so it ends soonest. -/
theorem State.soonest_loader (hp : s.phase = .starting) {n : Nat} (hl : s.loader = .waiting n tm) :
    s.soonest tm = true := by
  rw [State.soonest_iff]
  rintro ⟨c, tm'⟩ hx
  obtain ⟨-, n', hl'⟩ := (State.runningTimers_starting hp _).mp hx
  obtain ⟨-, rfl⟩ : n = n' ∧ tm = tm' := by simpa [hl] using hl'
  exact le_refl _

end

end Sys2Proof.Machine

/-!
PROOF. What a command can do, said once: the states that a command passes through, change by change, with
what the rules check before each change. An invariant of every step and a frame are inductions over these
changes.
-/

namespace Sys2Proof.Machine

/-! ## What the changes are judged by -/

/-- Counters that do not fall and a capture that stays (R191, R192). -/
structure Trail.Grows (x y : Trail) : Prop where
  counters : ∀ k : Fin 25, x.counters[k].toNat ≤ y.counters[k].toNat
  capture : ∀ z, x.capture = some z → y.capture = some z

/-- The commands and heads of the receive FIFO under which the entry of a tester may change (R45). -/
def State.mayAdmit (s : State) (c : Instr) (t : Tester) : Prop :=
  c = .validityTimerExpiry t ∨ c = .quietTimerExpiry t ∨
  (((testerRow c).isSome = true ∨ c = .refreshOnlyPassage) ∧
    ∃ (e : RxEntry) (rest : List RxEntry), s.phase = .running ∧ s.bus.rxFifo = e :: rest ∧
      e.echo = false ∧ testerOf e.frame.source = some t)

/-- The commands that may take a fence cause (R170). -/
def fenceCommand (c : Instr) : Prop :=
  c = .fenceLineAssertion ∨ c = .fenceFramePassage ∨ c = .stopLimitExpiry ∨
    ∃ bytes, c = .imageReadDone bytes

/-- The commands under which a stop order may be asked for (R160). -/
def asksStop (c : Instr) : Bool :=
  (guardRow c).isSome || c == .transmitError || c == .serviceLimitExpiry || c == .abortReqPassage

/-- A change that reopens no incident (R167). -/
def Incident.Settles (f : Incident → Incident) : Prop :=
  ∀ i, (f i).status = .opened → i.status = .opened

/-- A state in which a request may be served: PENDING or HELD (R143). -/
def Record.serving (r : Record) : Bool := r.state == .pending || r.state == .held

/-- A change of a record that leaves who it is for, and an occupying record occupying (R75, R77, R83). -/
def Record.Mild (f : Record → Record) : Prop :=
  ∀ r, (f r).id = r.id ∧ (f r).tester = r.tester ∧ (f r).cls = r.cls ∧ (f r).scope = r.scope ∧
    (f r).sponsor.isSome = r.sponsor.isSome ∧ (r.occupying = true → (f r).occupying = true)

/-- A record of a claim that is not homed here stands in the view (R77). -/
def State.homedElsewhere (s : State) (id : ClaimId) : Prop :=
  ∃ x ∈ s.hold.view, x.id = id ∧ x.sponsor = none

/-- Entries leave the delivery queue and their blocks return, before anyone is answered (R145). -/
def State.dropEntries (s : State) (p : QueueEntry → Bool) : State :=
  (s.onDelivery fun d => { d with queue := d.queue.filter fun e => !p e }).freeBlocks
    ((s.delivery.queue.filter p).map fun e => blocksFor e.data.length).sum

/-- What a command still owes between two of its changes: nothing, the removal of the queued entries of a
claim that serves them no more (R120), or the completion of the entry into FENCED (R171). -/
inductive Debt where
  | clear
  | claim (id : ClaimId)
  | fencing
  deriving DecidableEq

/-! ## The changes -/

/-- The states that a command `c` passes through from the state `a`, with what it owes there. -/
inductive During (c : Instr) (a : State) : Debt → State → Prop where
  | start : During c a .clear a
  -- starts and the loader
  | powerOn {s} (h : During c a .clear s)
      (hc : c = .powerOn ∨ c = .lineReset ∧ a.startAfterReset = .powerOn) :
      During c a .clear s.startPowerOn
  | lineReset {s} (h : During c a .clear s) (hc : c = .lineReset) : During c a .clear s.startLineReset
  | held {d s} (h : During c a d s) (k : StartKind) : During c a d (s.setPhase (.held k))
  | loader {d s} (h : During c a d s) (l : Loader) : During c a d (s.setLoader l)
  | reject {d s} (h : During c a d s) (hs : s.phase = .starting) :
      During c a d (s.setPhase .unconfigured)
  | settle {bytes} (g : Settings) (hc : c = .imageReadDone bytes) (ha : a.phase = .starting)
      (hg : imageSettings bytes = some g) :
      During c a .clear (((a.setConfig g).setLoader .idle).setPhase .running)
  -- blocks that no invariant rests on
  | time (tm : Timer) (hc : timerExpiry c = true) (hr : a.runs tm) (hs : a.soonest tm = true) :
      During c a .clear (a.reachDue tm)
  | pins {d s} (h : During c a d s) (f : Pins → Pins) : During c a d (s.onPins f)
  | trail {d s} (h : During c a d s) (f : Trail → Trail) (hf : ∀ x, Trail.Grows x (f x)) :
      During c a d (s.onTrail f)
  | clearCounters {d s} (h : During c a d s) (hc : c = .queryCounters) : During c a d s.clearCounters
  | clearCapture {d s} (h : During c a d s) (hc : c = .queryCapture) : During c a d s.clearCapture
  | useFree {d s} (h : During c a d s) : During c a d s.useFree
  | membership {d s} (h : During c a d s) (f : Membership → Membership)
      (hf : (∀ m, (f m).roster = m.roster) ∨ linkRow c = false) : During c a d (s.onMembership f)
  | admission {d s} (h : During c a d s) (t : Tester) (x : Admission) (hc : a.mayAdmit c t) :
      During c a d (s.setAdmission t x)
  | slot {d s} (h : During c a d s) (k : Fin 4) (x : Slot)
      (hc : ∃ data, c = .slotLoad data ∨ c = .slotClear data) : During c a d (s.setSlot k x)
  | response {d s} (h : During c a d s) (x : Option Response) :
      During c a d (s.onLink fun l => { l with response := x })
  | conditions {d s} (h : During c a d s) (x : Conditions) (hc : ∃ data, c = .conditions data) :
      During c a d (s.onLink fun l => { l with conditions := x })
  -- the backbone controller
  | errors {d s} (h : During c a d s) (f : Backbone → Backbone)
      (hf : ∀ b, (f b).mode = b.mode ∧ (f b).rxFifo = b.rxFifo ∧ (f b).txQueue = b.txQueue ∧
        (f b).sending = b.sending) : During c a d (s.onBus f)
  | receive {d s} (h : During c a d s) (f : Frame) (hm : s.bus.mode = .enabled)
      (hp : s.bus.placeForFrame = true) :
      During c a d (s.onBus fun b => { b with rxFifo := b.rxFifo ++ [⟨f, false, 0⟩] })
  | arbitrate {d s} (h : During c a d s) (hl : s.bus.rxFifo.length < Config.rxPlaces) :
      During c a d (s.onBus fun b => { b with sending := chooseEntry b.txQueue })
  | stopSending {d s} (h : During c a d s) : During c a d (s.onBus fun b => { b with sending := none })
  | complete {d s} (h : During c a d s) (i : Nat) (e : TxEntry) (hm : s.bus.mode = .enabled)
      (hs : s.bus.sending = some i) (he : s.bus.txQueue[i]? = some e) :
      During c a d (s.onBus fun b => { b with
        txErrors := b.txErrors - 1
        rxFifo := b.rxFifo ++ [⟨e.frame, true, e.blocks⟩]
        txQueue := b.txQueue.eraseIdx i
        sending := none })
  | offerGuard {d s} (h : During c a d s) (k : FrameKind) (p : List Byte) (hk : k.guardKind = true)
      (hc : k = .consent → a.fence.fenced = false) (hm : s.bus.mode = .enabled)
      (hr : s.roomForProtocol = true) :
      During c a d (s.joinQueue (guardFrame s.config.ownDomain k p) 0)
  | offerTester {d s} (h : During c a d s) (k : FrameKind) (t : Tester) (p : List Byte)
      (hk : k.statusKind = true) (hm : s.bus.mode = .enabled) (hr : s.roomForTester = true) :
      During c a d (s.joinQueue (testerFrame s.config.ownDomain k t p) 0)
  | offerSegment {d s} (h : During c a d s) (x : Answer) (rest : List Answer)
      (hm : s.bus.mode = .enabled) (hr : s.roomForTester = true) (hx : s.memory.replies = x :: rest) :
      During c a d ((s.joinQueue (testerFrame s.config.ownDomain x.kind x.tester x.payload)
        (blocksOfSegment x.data.length x.next)).onMemory fun m =>
          { m with replies := advanceReplies m.replies })
  | pop {d s} (h : During c a d s) (e : RxEntry) (rest : List RxEntry) (he : s.bus.rxFifo = e :: rest)
      (hk : (e.echo && e.frame.isSort FrameKind.answerKind) = false) : During c a d s.popHead
  | popAnswer {d s} (h : During c a d s) (e : RxEntry) (rest : List RxEntry)
      (he : s.bus.rxFifo = e :: rest) : During c a d (s.popHead.freeBlocks e.blocks)
  | busOff {d s} (h : During c a d s) : During c a d s.enterBusOff
  | enable {d s} (h : During c a d s) (k : StartKind)
      (hm : s.bus.mode ≠ .enabled ∨ (a.phase = .starting ∧ s.bus.mode = a.bus.mode))
      (hp : s.phase = .running) : During c a d (s.enableAndJoin k)
  -- the hold unit
  | update {d s} (h : During c a d s) (id : ClaimId) (f : Record → Record) (hf : Record.Mild f)
      (hr : (∀ r, (f r).replicated = r.replicated) ∨ (guardRow c).isSome = true)
      (hs : a.homedElsewhere id ∨
        ∀ r, s.record? id = some r → r.serving = true → (f r).serving = true) :
      During c a d (s.updateRecord id f)
  | suspend {s} (h : During c a .clear s) (id : ClaimId) (hc : (guardRow c).isSome = true) :
      During c a (.claim id) (s.updateRecord id Record.suspend)
  | remove {s} (h : During c a .clear s) (id : ClaimId) (hc : (guardRow c).isSome = true) :
      During c a (.claim id) (s.removeRecord id)
  | removeElsewhere {s} (h : During c a .clear s) (id : ClaimId) (hc : (guardRow c).isSome = true)
      (hx : a.homedElsewhere id) : During c a .clear (s.removeRecord id)
  | create {d s} (h : During c a d s) (r : Record) (hc : (guardRow c).isSome = true)
      (hr : r.sound s.config.ownDomain = true) (hn : s.record? r.id = none)
      (hh : homeOf r.id ≠ s.config.ownDomain.val) (hp : s.hasRoom = true)
      (hx : s.conflicts r.cls = false) (hph : s.phase = .running) : During c a d (s.createRecord r)
  | createReserved {d s} (h : During c a d s) (r : Record) (v : Reservation)
      (hc : (guardRow c).isSome = true) (hr : r.sound s.config.ownDomain = true)
      (hv : s.reservation? r.id = some v) (hx : s.conflicts r.cls = false) (hph : s.phase = .running) :
      During c a d ((s.releaseReservation r.id).createRecord r)
  | reserve {d s} (h : During c a d s) (v : Reservation) (hp : s.hasRoom = true)
      (hv : v.id = claimIdOf s.config.ownDomain s.nextFreeSeq) (hph : s.phase = .running) :
      During c a d (s.reserve v)
  | release {d s} (h : During c a d s) (id : ClaimId) : During c a d (s.releaseReservation id)
  | holdBusLoss {d s} (h : During c a d s) : During c a d (s.onHold Hold.busLoss)
  -- the request memory and the delivery unit
  | assemble {d s} (h : During c a d s) (t : Tester) (x : Assembly) (hl : s.laneFree t = true)
      (ht : s.tagInUse t x.tag = false) (hq : s.queueHasPlace t = true)
      (hb : blocksFor x.total + Config.blockReserve ≤ s.memory.free) (hx : x.data.length ≤ x.total)
      (hn : x.cls.effecting = true → x.claim ≠ noClaim) :
      During c a d ((s.takeBlocks (blocksFor x.total)).setLane t (.assembling x))
  | segment {d s} (h : During c a d s) (t : Tester) (x y : Assembly)
      (hl : s.memory.lanes[t] = .assembling x)
      (hy : y.tag = x.tag ∧ y.total = x.total ∧ y.cls = x.cls ∧ y.claim = x.claim)
      (hd : x.data.length ≤ x.total → y.data.length ≤ y.total) :
      During c a d (s.setLane t (.assembling y))
  | dropLane {d s} (h : During c a d s) (t : Tester) (l : Lane) (hl : ∀ x, l ≠ .assembling x) :
      During c a d ((s.freeBlocks s.memory.lanes[t].blocks).setLane t l)
  | standing {d s} (h : During c a d s) (t : Tester) (x : Assembly) (y : Answer)
      (hl : s.memory.lanes[t] = .assembling x) (hy : y.next = 0)
      (hb : blocksFor y.data.length ≤ s.memory.free + blocksFor x.total)
      (hr : s.memory.replies.length < Config.replyAnswers) :
      During c a d ((((s.freeBlocks (blocksFor x.total)).setLane t .free).takeBlocks
        (blocksFor y.data.length)).stageAnswer y)
  | enqueue {s} (h : During c a .clear s) (t : Tester) (x : Assembly) (e : QueueEntry)
      (hc : c = .reqFirstPassage ∨ c = .reqNextPassage) (hl : s.memory.lanes[t] = .assembling x)
      (hx : x.total ≤ x.data.length)
      (he : e.tester = t ∧ e.tag = x.tag ∧ e.cls = x.cls ∧ e.claim = x.claim ∧ e.data = x.data)
      (hs : x.claim = noClaim ∨ (s.standing x.claim).serves t = true)
      (hf : x.cls.effecting = true → s.fence.fenced = false) :
      During c a .clear ((s.setLane t .free).onDelivery fun d =>
        { d with queue := d.queue ++ [e], lastStamp := e.stamp })
  | stageAudit {d s} (h : During c a d s) (t : Tester) (tag : Byte) (data : List Byte)
      (hp : s.canStage data.length = true) : During c a d (s.stageAudit t tag data)
  | discardAnswers {d s} (h : During c a d s) (t : Tester) : During c a d (s.discardAnswers t)
  | memoryBusLoss {d s} (h : During c a d s) : During c a d (s.onMemory Memory.busLoss)
  | dropEntries {d s} (h : During c a d s) (p : QueueEntry → Bool) : During c a d (s.dropEntries p)
  | dropClaim {id s} (h : During c a (.claim id) s) :
      During c a .clear (s.dropEntries fun e => e.claim == id)
  | handOver {d s} (h : During c a d s) (e : QueueEntry) (v : Service) (hc : ∃ data, c = .take data)
      (he : e ∈ s.delivery.queue) (hv : s.delivery.service = none) (ho : s.fence.stop = none)
      (hx : e.cls.effecting = true → s.fence.fenced = false)
      (hs : v.tester = e.tester ∧ v.tag = e.tag ∧ v.cls = e.cls ∧ v.claim = e.claim ∧
        v.data = e.data ∧ v.staged = []) :
      During c a d (s.onDelivery fun d => { d with queue := d.queue.erase e, service := some v })
  | service {d s} (h : During c a d s) (f : Service → Service)
      (hf : ∀ v, (f v).tester = v.tester ∧ (f v).tag = v.tag ∧ (f v).cls = v.cls ∧
        (f v).claim = v.claim ∧ (f v).data = v.data ∧ (f v).staged = v.staged)
      (hl : s.fence.stop = none ∨ ∀ v, v.limit = none → (f v).limit = none) :
      During c a d (s.updateService f)
  | stageBytes {d s} (h : During c a d s) (v : Service) (bytes : List Byte)
      (hv : s.delivery.service = some v) (hb : stagingNeed v bytes.length ≤ s.memory.free) :
      During c a d (s.stageBytes v bytes)
  | leave {d s} (h : During c a d s) (v w : Service) (hv : s.delivery.service = some v)
      (hw : w.data = v.data ∧ w.staged = v.staged)
      (ho : s.fence.stop = none ∨ v.cls.effecting = false) :
      During c a d ((s.onDelivery fun d => { d with service := none }).freeBlocks w.blocks)
  | answer {d s} (h : During c a d s) (v : Service) (bytes : List Byte) (y : Answer)
      (hv : s.delivery.service = some v) (ho : s.fence.stop = none)
      (hb : stagingNeed v bytes.length ≤ s.memory.free)
      (hr : s.memory.replies.length < Config.replyAnswers)
      (hy : y.next = 0 ∧ y.data = v.staged ++ bytes) :
      During c a d ((((s.takeBlocks (stagingNeed v bytes.length)).stageAnswer y).freeBlocks
        (blocksFor v.data.length)).onDelivery fun d => { d with service := none })
  -- the fence unit
  | startFencing {s} (h : During c a .clear s) (cause : FenceCause) (hc : fenceCommand c) :
      During c a .fencing (s.onFence fun f => { f with fenced := true, causes := f.causes ||| cause.bit })
  | endFencing {s} (h : During c a .fencing s)
      (hv : ∀ v, s.delivery.service = some v → v.cls.effecting = false)
      (ho : s.fence.stop = none ∨ s.delivery.service = none) :
      During c a .clear (s.dropEntries fun e => e.cls.effecting)
  | causes {d s} (h : During c a d s) (f : BitVec 5 → BitVec 5) (hc : linkRow c = false)
      (hf : s.fence.fenced = true ∨ f 0 = 0) :
      During c a d (s.onFence fun x => { x with causes := f x.causes })
  | lift {s} (h : During c a .clear s) (hc : c = .liftPassage) :
      During c a .clear (s.onFence fun f => { f with fenced := false, causes := 0 })
  | incident {d s} (h : During c a d s) (f : Incident → Incident) (hf : Incident.Settles f) :
      During c a d (s.updateIncident f)
  | writeIncident {d s} (h : During c a d s) (i : Incident) (hc : fenceCommand c) :
      During c a d (s.writeIncident i)
  | marker {d s} (h : During c a d s) (b : Bool) (hc : b = true → ∃ data, c = .take data) :
      During c a d (s.onFence fun f => { f with marker := b })
  | issueStop {d s} (h : During c a d s) (v : Service) (cause : StopCause) (hc : asksStop c = true)
      (hd : d ≠ .fencing) (hv : s.delivery.service = some v) (he : v.cls.effecting = true) (ho : s.fence.stop = none) :
      During c a d (s.issueStopFor v cause)
  | settleOrder {d s} (h : During c a d s) (hc : linkRow c = true) :
      During c a d (s.onFence fun f => { f with stop := none }).withdrawStopNotice
  | abandonOrder {d s} (h : During c a d s) (f : Incident → Incident) (hf : Incident.Settles f)
      (hc : fenceCommand c) :
      During c a d ((s.onFence fun f => { f with stop := none }).updateIncident f).leaveStopNotice
  | orphanOrder {d s} (h : During c a d s) (t : Tester) :
      During c a d (s.onFence fun f => { f with stop := f.stop.map (StopOrder.orphan t) })
  -- the notice queue
  | notice {d s} (h : During c a d s) (n : Notice) (hn : n.ofOrder = false) :
      During c a d (s.queueNotice n)
  | handNotice {d s} (h : During c a d s) (n : Notice) (rest : List Notice)
      (hn : s.link.notices = n :: rest) :
      During c a d (s.onLink fun l => { l with notices := rest, lost := false })

/-! ## The trail only grows (R188 to R192) -/

theorem Trail.Grows.of_same {x y : Trail} (hc : y.counters = x.counters) (hp : y.capture = x.capture) :
    Trail.Grows x y :=
  ⟨fun k => by rw [hc], fun _ h => hp.trans h⟩

theorem toNat_le_saturate16 (w : BitVec 16) : w.toNat ≤ (saturate16 w).toNat := by
  unfold saturate16
  split
  · exact le_rfl
  · bv_omega

theorem Trail.grows_count (x : Trail) (k : Fin 25) :
    Trail.Grows x { x with counters := x.counters.set k.val (saturate16 x.counters[k]) k.isLt } := by
  refine ⟨fun j => ?_, fun _ h => h⟩
  by_cases hj : k = j
  · subst hj; simpa using toNat_le_saturate16 _
  · have : k.val ≠ j.val := fun h => hj (Fin.ext h)
    simp [this]

/-- Posting touches neither the counters nor the capture. -/
theorem Trail.grows_post (x : Trail) (e : TrailEntry) (n : Option Nat) : Trail.Grows x (x.post e n) := by
  unfold Trail.post Trail.write
  split
  · split <;> exact Trail.Grows.of_same rfl rfl
  · exact Trail.Grows.of_same rfl rfl
  · exact Trail.Grows.of_same rfl rfl

/-- An offered capture is taken only when the capture is empty. -/
theorem Trail.grows_capture (x : Trail) (z : Capture) :
    Trail.Grows x { x with capture := x.capture.orElse fun _ => some z } :=
  ⟨fun _ => le_rfl, fun _ h => by simp [h]⟩

theorem Trail.grows_thaw (x : Trail) (e : TrailEntry) :
    Trail.Grows x { ({ x with mode := .recording } : Trail).write e with skipped := 0 } :=
  Trail.Grows.of_same rfl rfl

/-! ## Removals from the delivery queue (R145) -/

/-- The answer of one removed entry. -/
def State.answerEntry (s : State) (reason : Option Byte) (e : QueueEntry) : State :=
  match reason with
  | none => s
  | some r => s.refuseRequest .reqFirst e.tester e.tag r e.claim (some e.cls) e.data.length e.data

/-- The answers of removed entries, oldest first (log entry 31). -/
def State.answerEntries (s : State) (reason : Option Byte) (l : List QueueEntry) : State :=
  l.foldl (fun s e => s.answerEntry reason e) s

/-- An answer is not judged by the free blocks. -/
theorem State.answerEntry_freeBlocks (s : State) (reason : Option Byte) (e : QueueEntry) (n : Nat) :
    (s.answerEntry reason e).freeBlocks n = (s.freeBlocks n).answerEntry reason e := by
  cases reason with
  | none => rfl
  | some r =>
    have takes : (s.freeBlocks n).takesStatus = s.takesStatus := rfl
    simp only [State.answerEntry, State.refuseRequest, State.requestResult, State.offerResult,
      State.offerStatus, takes, State.countReason]
    cases s.takesStatus <;> cases reasonCounter r <;> rfl

theorem State.freeBlocks_freeBlocks (s : State) (m n : Nat) :
    (s.freeBlocks m).freeBlocks n = s.freeBlocks (m + n) := by
  simp [State.freeBlocks, State.onMemory, Nat.add_assoc]

/-- Returning blocks and answering entry by entry is returning all blocks, then answering. -/
theorem State.foldl_entryGone (reason : Option Byte) (l : List QueueEntry) (s : State) :
    l.foldl (fun s e => s.entryGone reason e) s =
      (s.freeBlocks (l.map fun e => blocksFor e.data.length).sum).answerEntries reason l := by
  induction l generalizing s with
  | nil => rfl
  | cons e l ih =>
    have gone : s.entryGone reason e = (s.freeBlocks (blocksFor e.data.length)).answerEntry reason e := by
      cases reason <;> rfl
    rw [List.foldl_cons, ih, gone, State.answerEntry_freeBlocks, State.freeBlocks_freeBlocks]
    rfl

/-- A removal drops the entries, then answers them. -/
theorem State.removeEntries_eq (s : State) (p : QueueEntry → Bool) (reason : Option Byte) :
    s.removeEntries p reason =
      (s.dropEntries p).answerEntries reason (s.delivery.queue.filter p) := by
  rw [State.removeEntries, State.foldl_entryGone]
  rfl

/-- A request leaves the slot with all its blocks; then its claim's operation state follows. -/
theorem State.leaveSlot_eq (s : State) (v : Service) :
    s.leaveSlot v =
      if v.cls.effecting then
        ((s.onDelivery fun d => { d with service := none }).freeBlocks v.blocks).setOperation v.claim .idle
      else (s.onDelivery fun d => { d with service := none }).freeBlocks v.blocks := by
  unfold State.leaveSlot State.emptySlot Service.blocks
  split
  · simp [State.freeBlocks, State.onMemory, State.onDelivery, State.setOperation, State.updateSponsor,
      State.updateRecord, State.onHold, Nat.add_assoc]
  · simp [State.freeBlocks, State.onMemory, State.onDelivery, Nat.add_assoc]

end Sys2Proof.Machine

/-!
PROOF. The shared operations as the changes they are made of (R11 to R14, R36, R120 to R122, R136 to R171).
-/

namespace Sys2Proof.Machine

namespace During

section
variable {c : Instr} {a s : State} {d : Debt}

/-! ## Counters, trail, capture and notices -/

theorem count (h : During c a d s) (k : Fin 25) : During c a d (s.count k) :=
  h.trail _ fun x => x.grows_count k

theorem countReason (h : During c a d s) (r : Byte) : During c a d (s.countReason r) := by
  unfold State.countReason
  split
  · exact h.count _
  · exact h

theorem post (h : During c a d s) (e : TrailEvent) (t : Option Tester) (i : Option ClaimId)
    (k : Option Sys2Proof.Class) (b : Byte) : During c a d (s.post e t i k b) :=
  h.trail _ fun x => x.grows_post _ _

theorem postFenceEntry (h : During c a d s) (k : FenceCause) : During c a d (s.postFenceEntry k) :=
  h.trail _ fun x => x.grows_post _ _

theorem offerCapture (h : During c a d s) (z : Capture) : During c a d (s.offerCapture z) :=
  h.trail _ fun x => x.grows_capture _

theorem claimNotice (h : During c a d s) (k : NoticeKind) (r : Record) (b : Byte) :
    During c a d (s.claimNotice k r b) :=
  h.notice _ rfl

theorem respond (h : During c a d s) (st : LinkStatus) (data : List Byte) :
    During c a d (s.respond st data) :=
  h.response _

/-! ## Offers to the transmit queue (R11 to R14, R36) -/

theorem addOutstanding (h : During c a d s) (x : Clearing) : During c a d (s.addOutstanding x) :=
  h.membership _ (.inl fun _ => rfl)

theorem offerRevoke (h : During c a d s) (r : ClearReason) : During c a d (s.offerRevoke r) := by
  unfold State.offerRevoke
  split
  · exact h.count _
  · rename_i hm
    split
    · exact h
    · split
      · rename_i hr
        exact (h.offerGuard .revokeDomain _ rfl nofun (by simpa using hm) hr).addOutstanding _
      · exact h.addOutstanding _

theorem lossEvent (h : During c a d s) : During c a d s.lossEvent := by
  have uncovered := h.membership (fun m => { m with outstanding := m.outstanding.map Clearing.uncovered })
    (.inl fun _ => rfl)
  have resync := h.membership
    (fun m => { m with state := .resync, outstanding := m.outstanding.map Clearing.uncovered })
    (.inl fun _ => rfl)
  unfold State.lossEvent
  split
  · exact h
  · exact uncovered
  · exact uncovered
  · dsimp only
    split
    · exact resync
    · exact resync.offerRevoke _

theorem offerProtocol (h : During c a d s) (k : FrameKind) (p : List Byte)
    (hk : k.guardKind = true := by rfl) (hc : k = .consent → a.fence.fenced = false := by nofun) :
    During c a d (s.offerProtocol k p) := by
  unfold State.offerProtocol
  split
  · rename_i ht
    simp only [State.takesProtocol, Bool.and_eq_true, beq_iff_eq] at ht
    obtain ⟨⟨hm, -⟩, hr⟩ := ht
    exact h.offerGuard k p hk hc hm hr
  · split
    · exact (h.count _).lossEvent
    · exact h.count _

theorem offerStatus (h : During c a d s) (k : FrameKind) (t : Tester) (p : List Byte)
    (hk : k.statusKind = true := by rfl) : During c a d (s.offerStatus k t p) := by
  unfold State.offerStatus
  split
  · rename_i ht
    simp only [State.takesStatus, Bool.and_eq_true, beq_iff_eq] at ht
    obtain ⟨hm, hr⟩ := ht
    exact h.offerTester k t p hk hm hr
  · exact h.count _

theorem offerResult (h : During c a d s) (k : FrameKind) (t : Tester) (g r : Byte) (i : ClaimId) :
    During c a d (s.offerResult k t g r i) :=
  h.offerStatus .result t _

theorem offerClaimStatus (h : During c a d s) (t : Tester) (i : ClaimId) (g st r : Byte)
    (k : Sys2Proof.Class) (n : Nat) : During c a d (s.offerClaimStatus t i g st r k n) := by
  unfold State.offerClaimStatus
  split
  · exact h.offerStatus .claimStatus t _
  · exact h

theorem requestResult (h : During c a d s) (k : FrameKind) (t : Tester) (g r : Byte) (i : ClaimId) :
    During c a d (s.requestResult k t g r i) :=
  (h.offerResult k t g r i).countReason r

theorem refuseRequest (h : During c a d s) (k : FrameKind) (t : Tester) (g r : Byte) (i : ClaimId)
    (x : Option Sys2Proof.Class) (n : Nat) (data : List Byte) :
    During c a d (s.refuseRequest k t g r i x n data) :=
  (h.requestResult k t g r i).offerCapture _

theorem reportClaim (h : During c a d s) (r : Record) (p : Sponsor) (st b : Byte) :
    During c a d (s.reportClaim r p st b) :=
  h.offerClaimStatus ..

theorem requestRevoke (h : During c a d s) : During c a d s.requestRevoke := by
  unfold State.requestRevoke
  split
  · exact h
  · split
    · exact h.membership _ (.inl fun _ => rfl)
    · exact h.offerRevoke _

/-! ## Claim records (R76, R77) -/

/-- A change of a sponsor part is mild, and no replicated field changes. -/
theorem updateSponsor (h : During c a d s) (id : ClaimId) (f : Sponsor → Sponsor) :
    During c a d (s.updateSponsor id f) :=
  h.update id _ (fun r => ⟨rfl, rfl, rfl, rfl, by simp [Record.onSponsor], fun hr => hr⟩)
    (.inl fun _ => rfl) (.inr fun _ _ hr => hr)

theorem setOperation (h : During c a d s) (id : ClaimId) (op : OpState) :
    During c a d (s.setOperation id op) :=
  h.updateSponsor id _

theorem decideClaim (h : During c a d s) (id : ClaimId) (o : VerdictOutcome) (b : Byte) :
    During c a d (s.decideClaim id o b) :=
  (h.updateSponsor id _).offerProtocol .verdict _

theorem decideEnd (h : During c a d s) (id : ClaimId) (b : Byte) : During c a d (s.decideEnd id b) := by
  unfold State.decideEnd
  split
  · split
    · exact h
    · exact (h.updateSponsor id _).offerProtocol .endClaim _
  · exact h

/-! ## Removals from the delivery queue (R145) -/

theorem answerEntries (h : During c a d s) (reason : Option Byte) (l : List QueueEntry) :
    During c a d (s.answerEntries reason l) := by
  induction l generalizing s with
  | nil => exact h
  | cons e l ih =>
    have answered : During c a d (s.answerEntry reason e) := by
      cases reason with
      | none => exact h
      | some r => exact h.refuseRequest ..
    exact ih answered

theorem removeEntries (h : During c a d s) (p : QueueEntry → Bool) (reason : Option Byte) :
    During c a d (s.removeEntries p reason) := by
  rw [State.removeEntries_eq]
  exact (h.dropEntries p).answerEntries _ _

/-- Answering the entries of a claim that serves them no more settles what is owed (R120). -/
theorem removeClaim {id : ClaimId} (h : During c a (.claim id) s) (reason : Option Byte) :
    During c a .clear (s.removeEntries (fun e => e.claim == id) reason) := by
  rw [State.removeEntries_eq]
  exact h.dropClaim.answerEntries _ _

/-! ## The service slot and the stop order (R153 to R166) -/

theorem leaveSlot (h : During c a d s) {v w : Service} (hv : s.delivery.service = some v)
    (hw : w.data = v.data ∧ w.staged = v.staged)
    (ho : s.fence.stop = none ∨ v.cls.effecting = false) : During c a d (s.leaveSlot w) := by
  have left := h.leave v w hv hw ho
  rw [State.leaveSlot_eq]
  split
  · exact left.setOperation _ _
  · exact left

theorem askStop (h : During c a d s) (cause : StopCause) (hc : asksStop c = true)
    (hd : d ≠ .fencing) : During c a d (s.askStop cause) := by
  unfold State.askStop
  split
  · rename_i v hv ho
    split
    · rename_i he
      exact h.issueStop v cause hc hd hv he ho
    · exact h
  · exact h

theorem settleStop (h : During c a d s) (o : StopOrder) {v : Service}
    (hv : s.delivery.service = some v) (x : IncidentOutcome) (hc : linkRow c = true) :
    During c a d (s.settleStop o v x) := by
  have posted := (((h.settleOrder hc).incident (fun i =>
    { i with status := .closed, outcome := some x }) (fun _ hi => absurd hi (by simp))).marker false
        (fun hb => absurd hb (by simp))).post .stopped (some o.tester)
      (some o.claim) (some o.cls) (settleCode x)
  have left := posted.leaveSlot (w := o.release v) (v := v) (by simpa using hv) (by simp)
    (.inl (by simp [State.updateIncident]))
  unfold State.settleStop
  dsimp only
  split
  · split
    · exact left
    · exact left.requestResult ..
  · exact left

theorem abandonStop (h : During c a d s) (hc : fenceCommand c) : During c a d s.abandonStop := by
  unfold State.abandonStop
  split
  · rename_i o v ho hv
    have abandoned := h.abandonOrder
      (fun i => { i with outcome := i.outcome.orElse fun _ => some .abandoned }) (fun _ hi => hi) hc
    have left := abandoned.leaveSlot (w := o.release v) (v := v) (by simpa using hv) (by simp)
      (.inl (by simp [State.updateIncident, State.leaveStopNotice]))
    dsimp only
    split
    · exact left
    · exact left.requestResult ..
  · exact h

/-- An abandoned order is gone, unless there was no request it could stand for. -/
theorem abandonStop_stop (s : State) :
    s.abandonStop.fence.stop = none ∨ s.abandonStop.delivery.service = none := by
  unfold State.abandonStop
  split
  · left
    dsimp only
    split <;> simp [State.updateIncident]
  · rename_i hn
    cases ho : s.fence.stop with
    | none => exact .inl rfl
    | some o =>
      cases hv : s.delivery.service with
      | none => exact .inr rfl
      | some v => exact absurd hv (hn o v ho)

theorem discardEffecting (h : During c a d s)
    (ho : s.fence.stop = none ∨ s.delivery.service = none) : During c a d s.discardEffecting := by
  unfold State.discardEffecting
  split
  · exact h
  · rename_i v hv
    have hstop : s.fence.stop = none := ho.resolve_right (by simp [hv])
    have left := h.leaveSlot (w := v) hv ⟨rfl, rfl⟩ (.inl hstop)
    dsimp only
    split
    · split
      · exact left
      · exact left.requestResult ..
    · exact h

/-- After step 5 of R171 no effecting request is in service, and no order stands for a request. -/
theorem discardEffecting_service (s : State) (ho : s.fence.stop = none ∨ s.delivery.service = none) :
    (∀ v, s.discardEffecting.delivery.service = some v → v.cls.effecting = false) ∧
    (s.discardEffecting.fence.stop = none ∨ s.discardEffecting.delivery.service = none) := by
  have left (v : Service) : (s.leaveSlot v).delivery.service = none := (s.leaveSlot_effect v).1
  cases hv : s.delivery.service with
  | none =>
    have same : s.discardEffecting = s := by simp [State.discardEffecting, hv]
    rw [same]
    exact ⟨by simp [hv], ho⟩
  | some v =>
    cases he : v.cls.effecting with
    | true =>
      have gone : s.discardEffecting.delivery.service = none := by
        simp only [State.discardEffecting, hv, he, if_true]
        split <;> simp [left]
      exact ⟨by simp [gone], .inr gone⟩
    | false =>
      have same : s.discardEffecting = s := by simp [State.discardEffecting, hv, he]
      rw [same]
      exact ⟨by simp [hv, he], ho⟩

/-! ## Fence causes (R170, R171) -/

theorem enterFenced (h : During c a .clear s) (cause : FenceCause) (i : Incident)
    (hc : fenceCommand c) : During c a .clear (s.enterFenced cause i) := by
  let fenced := s.onFence fun f => { f with fenced := true, causes := f.causes ||| cause.bit }
  have opened : During c a .fencing (fenced.abandonStop.writeIncident i) :=
    ((h.startFencing cause hc).abandonStop hc).writeIncident i hc
  have ho : (fenced.abandonStop.writeIncident i).fence.stop = none ∨
      (fenced.abandonStop.writeIncident i).delivery.service = none := by
    have stop : (fenced.abandonStop.writeIncident i).fence.stop = fenced.abandonStop.fence.stop := by
      simp only [State.writeIncident, State.onFence_fence, Fence.writeIncident]
      split
      · split <;> rfl
      · rfl
    simpa [stop] using abandonStop_stop fenced
  obtain ⟨hv, ho'⟩ := discardEffecting_service _ ho
  have removed := ((opened.discardEffecting ho).endFencing hv ho').answerEntries (some Reason.fenced)
    ((fenced.abandonStop.writeIncident i).discardEffecting.delivery.queue.filter
      fun e => e.cls.effecting)
  rw [← State.removeEntries_eq] at removed
  exact (removed.requestRevoke.notice _ rfl).postFenceEntry cause

theorem takeFenceCause (h : During c a .clear s) (cause : FenceCause) (i : Incident)
    (hc : fenceCommand c) : During c a .clear (s.takeFenceCause cause i) := by
  have link : linkRow c = false := by
    rcases hc with rfl | rfl | rfl | ⟨_, rfl⟩ <;> rfl
  unfold State.takeFenceCause
  split
  · exact h.enterFenced cause i hc
  · rename_i hf
    split
    · exact h
    · exact ((h.causes (fun x => x ||| cause.bit) link (.inl (by simpa using hf))).writeIncident i hc).post ..

theorem dropFenceCause (h : During c a d s) (cause : FenceCause) (hc : linkRow c = false) :
    During c a d (s.dropFenceCause cause) :=
  h.causes (fun x => x &&& ~~~cause.bit) hc (.inr (by simp))

/-! ## Claims that change (R120, R126, R133) -/

/-- Only a guard-to-guard frame takes a claim away from its requests. -/
theorem guardRow_of_claim {id : ClaimId} (h : During c a (.claim id) s) : (guardRow c).isSome = true := by
  generalize hd : Debt.claim id = d at h
  induction h with
  | suspend _ _ hc | remove _ _ hc => exact hc
  | _ => simp_all

theorem handClaimChange {id : ClaimId} (h : During c a (.claim id) s) (stop : Option StopCause)
    (reason : Byte) : During c a .clear (s.handClaimChange id stop reason) := by
  have asks : asksStop c = true := by simp [asksStop, h.guardRow_of_claim]
  unfold State.handClaimChange
  split
  · split
    · exact (h.askStop _ asks nofun).removeClaim _
    · exact h.removeClaim _
  · exact h.removeClaim _

theorem reportEnding {r : Record} (h : During c a (.claim r.id) s) (p : Sponsor) (b : Byte) :
    During c a .clear (s.reportEnding r p b) :=
  (((h.handClaimChange _ _).claimNotice ..).reportClaim ..).post ..

theorem endRecord (h : During c a .clear s) (r : Record) (b : Byte) (hc : (guardRow c).isSome = true)
    (hr : r.sponsor = none → a.homedElsewhere r.id) : During c a .clear (s.endRecord r b) := by
  unfold State.endRecord
  dsimp only
  split
  · exact (h.remove _ hc).reportEnding _ _
  · rename_i hn
    exact h.removeElsewhere _ hc (hr hn)

theorem clearRecords (h : During c a .clear s) (k : Domain) (b : Byte)
    (hc : (guardRow c).isSome = true) (hs : s.hold.view = a.hold.view) :
    During c a .clear (s.clearRecords k b) := by
  have fold (l : List Record) (hl : ∀ r ∈ l, r ∈ a.hold.view) : ∀ s, During c a .clear s →
      During c a .clear (l.foldl (fun s r => s.endRecord r b) s) := by
    induction l with
    | nil => exact fun s h => h
    | cons r l ih =>
      intro s h
      refine ih (fun x hx => hl x (.tail _ hx)) _ (h.endRecord r b hc fun hn => ?_)
      exact ⟨r, hl r (.head _), rfl, hn⟩
  exact fold _ (fun r hr => hs ▸ List.mem_of_mem_filter hr) _ h

theorem reportRefusal {r : Record} (h : During c a (.claim r.id) s) (p : Sponsor) (b : Byte)
    (i : Option ClaimId) : During c a .clear (s.reportRefusal r p b i) :=
  (((h.reportClaim r p statusRefused b).count Counter.claimRefused).post .refused none i none
    b).handClaimChange none Reason.claimNotHeld

theorem reportNotResumed (h : During c a d s) (r : Record) (p : Sponsor) (b : Byte) :
    During c a d (s.reportNotResumed r p b) :=
  ((h.reportClaim ..).count _).post ..

end

end During

end Sys2Proof.Machine

/-!
PROOF. The commands of the pins, the bus and the timers as the changes they are made of (R25 to R31, R8 to
R17, R54, R55, R106, R112, R119, R142, R145, R155, R165, R169).
-/

namespace Sys2Proof.Machine

/-! ## What a change needs to know of the state before -/

/-- A reserved lane without an assembly holds no blocks. -/
theorem State.setLane_eq_drop (s : State) (t : Tester) (l : Lane)
    (hl : ∀ x, s.memory.lanes[t] ≠ .assembling x) :
    s.setLane t l = (s.freeBlocks s.memory.lanes[t].blocks).setLane t l := by
  have none : s.memory.lanes[t].blocks = 0 := by
    cases h : s.memory.lanes[t] with
    | assembling x => exact absurd h (hl x)
    | free => rfl
    | discarding => rfl
  rw [none]
  rfl

/-- Whatever the lane holds, emptying it returns its blocks. -/
theorem State.emptyLane_eq (s : State) (t : Tester) :
    s.emptyLane t = (s.freeBlocks s.memory.lanes[t].blocks).setLane t .free := by
  unfold State.emptyLane
  split
  · rename_i x hx
    rw [hx]
    rfl
  · rename_i hx
    exact s.setLane_eq_drop t .free hx

/-- A fence cause changes nothing of the controller but its queue. -/
theorem State.offerStatus_mode (s : State) (k : FrameKind) (t : Tester) (p : List Byte) :
    (s.offerStatus k t p).bus.mode = s.bus.mode := by
  unfold State.offerStatus
  split
  · rfl
  · simp

theorem State.requestResult_mode (s : State) (k : FrameKind) (t : Tester) (g r : Byte) (i : ClaimId) :
    (s.requestResult k t g r i).bus.mode = s.bus.mode := by
  simp [State.requestResult, State.offerResult, State.offerStatus_mode]

theorem State.removeEntries_mode (s : State) (p : QueueEntry → Bool) (reason : Option Byte) :
    (s.removeEntries p reason).bus.mode = s.bus.mode := by
  refine (State.foldl_keeps (fun s => s.bus.mode) _ (fun s e => ?_) _ _).trans (by simp)
  cases reason with
  | none => simp [State.entryGone]
  | some r => simp [State.entryGone, State.refuseRequest, State.requestResult_mode]

theorem State.abandonStop_mode (s : State) : s.abandonStop.bus.mode = s.bus.mode := by
  unfold State.abandonStop
  split
  · dsimp only
    split
    · simp [State.updateIncident]
    · simp [State.requestResult_mode, State.updateIncident]
  · rfl

theorem State.discardEffecting_mode (s : State) : s.discardEffecting.bus.mode = s.bus.mode := by
  unfold State.discardEffecting
  split
  · rfl
  · dsimp only
    split
    · split
      · simp
      · simp [State.requestResult_mode]
    · rfl

theorem State.offerRevoke_mode (s : State) (r : ClearReason) :
    (s.offerRevoke r).bus.mode = s.bus.mode := by
  unfold State.offerRevoke
  split
  · simp
  · split
    · rfl
    · split <;> simp [State.joinQueue]

theorem State.requestRevoke_mode (s : State) : s.requestRevoke.bus.mode = s.bus.mode := by
  unfold State.requestRevoke
  split
  · rfl
  · split
    · rfl
    · exact s.offerRevoke_mode _

theorem State.takeFenceCause_mode (s : State) (cause : FenceCause) (i : Incident) :
    (s.takeFenceCause cause i).bus.mode = s.bus.mode := by
  unfold State.takeFenceCause
  split
  · simp [State.enterFenced, State.requestRevoke_mode, State.removeEntries_mode,
      State.discardEffecting_mode, State.abandonStop_mode, State.writeIncident]
  · split
    · rfl
    · simp [State.writeIncident]

theorem State.startFences_mode (s : State) : s.startFences.bus.mode = s.bus.mode := by
  have power (s : State) : s.startFencesPowerOn.bus.mode = s.bus.mode := by
    unfold State.startFencesPowerOn
    dsimp only
    split <;> split <;> simp [State.takeFenceCause_mode]
  have reset (s : State) : s.startFencesLineReset.bus.mode = s.bus.mode := by
    unfold State.startFencesLineReset State.updateOpenStop State.updateIncident
    dsimp only
    repeat' split
    all_goals simp [State.takeFenceCause_mode]
  unfold State.startFences
  split
  · simp [reset]
  · exact power s

theorem State.startFences_phase (s : State) : s.startFences.phase = s.phase := by
  have power (s : State) : s.startFencesPowerOn.phase = s.phase := by
    unfold State.startFencesPowerOn
    dsimp only
    split <;> split <;> simp
  have reset (s : State) : s.startFencesLineReset.phase = s.phase := by
    unfold State.startFencesLineReset State.updateOpenStop State.updateIncident
    dsimp only
    repeat' split
    all_goals simp
  unfold State.startFences
  split
  · simp [reset]
  · exact power s

namespace During

section
variable {c : Instr} {a s : State} {d : Debt}

/-! ## Starts and the loader (R25 to R31) -/

theorem execPowerOn (hc : c = .powerOn) :
    During c a .clear (if a.pins.resetAsserted then
      (a.startPowerOn.setPhase (.held .powerOn)).setLoader .idle else a.startPowerOn) := by
  split
  · exact ((start.powerOn (.inl hc)).held _).loader _
  · exact start.powerOn (.inl hc)

theorem assertReset : During c a .clear a.assertReset :=
  ((((start.held _).pins _).stopSending).response _).loader _

theorem releaseReset (hc : c = .lineReset) : During c a .clear a.releaseReset := by
  have released := (start (c := c) (a := a)).pins fun p => { p with resetAsserted := false }
  unfold State.releaseReset
  dsimp only
  split
  · rename_i hk
    exact released.powerOn (.inr ⟨hc, hk⟩)
  · exact released.lineReset hc

theorem rejectImage (h : During c a d s) (hs : s.phase = .starting) : During c a d s.rejectImage :=
  (h.loader _).reject hs

theorem failAttempt (h : During c a d s) : During c a d s.failAttempt := by
  unfold State.failAttempt
  split
  · rename_i hs _
    split
    · exact h.rejectImage hs
    · exact h.loader _
  · exact h

theorem retryLoader (hc : timerExpiry c = true) : During c a .clear a.retryLoader := by
  unfold State.retryLoader
  split
  · rename_i n tm hs hl
    exact (time tm hc (State.runs_loader hs hl) (State.soonest_loader hs hl)).loader _
  · exact start

theorem updateOpenStop (h : During c a d s) (f : Incident → Incident) (hf : Incident.Settles f) :
    During c a d (s.updateOpenStop f) := by
  refine h.incident _ fun i hi => ?_
  split at hi
  · exact hf i hi
  · exact hi

theorem startFencesLineReset (h : During c a .clear s) (hf : fenceCommand c) (link : linkRow c = false) :
    During c a .clear s.startFencesLineReset := by
  have restart {s : State} (h : During c a .clear s) :
      During c a .clear (if s.fence.marker && s.config.fenceAfterLineReset then
        s.takeFenceCause .restart (s.fenceIncident .restart) else s) := by
    split
    · exact h.takeFenceCause .restart _ hf
    · exact h
  have line {s : State} (h : During c a .clear s) :
      During c a .clear (if s.fence.hasCause .line then
        if s.pins.fenceAsserted then s else s.dropFenceCause .line
      else if s.pins.fenceAsserted then s.takeFenceCause .line (s.fenceIncident .line) else s) := by
    split
    · split
      · exact h
      · exact h.dropFenceCause .line link
    · split
      · exact h.takeFenceCause .line _ hf
      · exact h
  have opened := h.updateOpenStop (fun i => { i with outcome := some .abandoned }) fun _ hi => hi
  exact ((line (restart opened)).updateOpenStop (fun i => { i with status := .closed })
    (fun _ hi => absurd hi (by simp))).marker false (fun hb => absurd hb (by simp))

theorem startFencesPowerOn (h : During c a .clear s) (hf : fenceCommand c) :
    During c a .clear s.startFencesPowerOn := by
  have power : During c a .clear (if s.config.fenceAtPowerOn then
      s.takeFenceCause .powerOn (s.fenceIncident .powerOn) else s) := by
    split
    · exact h.takeFenceCause .powerOn _ hf
    · exact h
  unfold State.startFencesPowerOn
  dsimp only
  generalize (if s.config.fenceAtPowerOn then
    s.takeFenceCause .powerOn (s.fenceIncident .powerOn) else s) = u at power ⊢
  split
  · exact power.takeFenceCause .line _ hf
  · exact power

theorem startFences (h : During c a .clear s) (hc : ∃ bytes, c = .imageReadDone bytes) :
    During c a .clear s.startFences := by
  have hf : fenceCommand c := .inr (.inr (.inr hc))
  have link : linkRow c = false := by obtain ⟨_, rfl⟩ := hc; rfl
  unfold State.startFences
  split
  · exact (h.post ..).startFencesLineReset hf link
  · exact h.startFencesPowerOn hf

theorem readImage {bytes : List Byte} (hc : c = .imageReadDone bytes) :
    During c a .clear (a.readImage bytes) := by
  unfold State.readImage
  split
  · rename_i n hs _
    split
    · split
      · rename_i g hg
        refine ((settle g hc hs hg).startFences ⟨_, hc⟩).enable _ (.inr ⟨hs, ?_⟩) ?_
        · simp [State.startFences_mode]
        · simp [State.startFences_phase]
      · exact start.rejectImage hs
    · exact start
  · exact start

/-! ## The FENCE line (R169) -/

theorem assertFenceLine (hc : c = .fenceLineAssertion) : During c a .clear a.assertFenceLine := by
  have asserted := (start (c := c) (a := a)).pins fun p => { p with fenceAsserted := true }
  unfold State.assertFenceLine
  split
  · exact start
  · dsimp only
    split
    · exact asserted.takeFenceCause .line _ (.inl hc)
    · exact asserted

theorem releaseFenceLine (hc : linkRow c = false) : During c a .clear a.releaseFenceLine := by
  have released := (start (c := c) (a := a)).pins fun p => { p with fenceAsserted := false }
  unfold State.releaseFenceLine
  split
  · dsimp only
    split
    · exact released.dropFenceCause .line hc
    · exact released
  · exact start

/-! ## The backbone controller (R8 to R16, R156) -/

theorem onBackbone_enabled (hb : s.onBackbone = true) : s.bus.mode = .enabled := by
  simpa [State.onBackbone] using (Bool.and_eq_true_iff.mp hb).2

theorem receiveFrame (h : During c a d s) (f : BusFrame) : During c a d (s.receiveFrame f) := by
  have fell := h.errors (fun b => { b with rxErrors := b.rxErrors - 1 }) fun _ => ⟨rfl, rfl, rfl, rfl⟩
  have stored (x : Frame) (hm : s.bus.mode = .enabled) : During c a d
      ((s.onBus fun b => { b with rxErrors := b.rxErrors - 1 }).storeFrame x) := by
    unfold State.storeFrame
    split
    · rename_i hp
      exact fell.receive x hm hp
    · exact (fell.count _).lossEvent
  unfold State.receiveFrame
  split
  · rename_i hb
    dsimp only
    split
    · exact fell
    · exact fell
    all_goals
      split
      · exact stored _ (onBackbone_enabled hb)
      · exact fell.count _
      · exact fell
  · exact h

theorem startArbitration (h : During c a d s) : During c a d s.startArbitration := by
  unfold State.startArbitration
  split
  · rename_i hb
    simp only [Bool.and_eq_true, decide_eq_true_eq] at hb
    obtain ⟨⟨-, hl⟩, -⟩ := hb
    exact h.arbitrate hl
  · exact h

theorem loseArbitration (h : During c a d s) : During c a d s.loseArbitration := by
  unfold State.loseArbitration
  split
  · exact h.stopSending
  · exact h

theorem noteCompleted (h : During c a d s) (k : Option FrameKind) : During c a d (s.noteCompleted k) := by
  unfold State.noteCompleted
  split
  · exact h.membership _ (.inl fun _ => rfl)
  · exact h.membership _ (.inl fun _ => rfl)
  · exact h

theorem completeOwn (h : During c a d s) : During c a d s.completeOwn := by
  unfold State.completeOwn
  split
  · rename_i hb
    split
    · exact h
    · rename_i i hs
      split
      · exact h
      · rename_i e he
        exact (h.complete i e (onBackbone_enabled hb) hs he).noteCompleted _
  · exact h

theorem busLoss (h : During c a .clear s) (hc : c = .transmitError) : During c a .clear s.busLoss := by
  have lost := ((((h.busOff).membership Membership.busLoss (.inl fun _ => rfl)).holdBusLoss).memoryBusLoss
    ).removeEntries (fun _ => true) none
  unfold State.busLoss State.busLossInService
  dsimp only
  split
  · exact lost
  · rename_i v hv
    split
    · exact lost.askStop _ (by simp [hc, asksStop]) nofun
    · rename_i he
      exact lost.leaveSlot hv ⟨rfl, rfl⟩ (.inr (by simpa using he))

theorem transmitError (h : During c a .clear s) (hc : c = .transmitError) : During c a .clear s.transmitError := by
  have rose := h.errors (fun b => { b with txErrors := b.txErrors + 8 }) fun _ => ⟨rfl, rfl, rfl, rfl⟩
  unfold State.transmitError
  split
  · dsimp only
    split
    · exact rose.busLoss hc
    · exact rose
  · exact h

theorem receiveError (h : During c a d s) : During c a d s.receiveError := by
  unfold State.receiveError
  split
  · exact h.errors _ fun _ => ⟨rfl, rfl, rfl, rfl⟩
  · exact h

theorem busReturn (h : During c a d s) : During c a d s.busReturn := by
  unfold State.busReturn
  split
  · rename_i hb
    exact h.enable _ (.inl (by simp [hb.2])) hb.1
  · exact h

theorem joinWaitingRevoke (h : During c a d s) : During c a d s.joinWaitingRevoke := by
  unfold State.joinWaitingRevoke
  split
  · rename_i hj
    simp only [State.revokeCanJoin, Bool.and_eq_true] at hj
    obtain ⟨⟨hb, -⟩, hr⟩ := hj
    split
    · exact h
    · exact (h.offerGuard .revokeDomain _ rfl nofun (onBackbone_enabled hb) hr).membership _
        (.inl fun _ => rfl)
  · exact h

theorem offerNextSegment (h : During c a d s) : During c a d s.offerSegment := by
  unfold State.offerSegment
  split
  · rename_i hb
    simp only [Bool.and_eq_true] at hb
    obtain ⟨⟨hb, hr⟩, -⟩ := hb
    split
    · exact h
    · rename_i x rest hx
      exact h.offerSegment x rest (onBackbone_enabled hb) hr hx
  · exact h

/-! ## The frame at the head (R4, R8, R55) -/

theorem head_eq_some {e : RxEntry} (h : s.head = some e) :
    s.phase = .running ∧ ∃ rest, s.bus.rxFifo = e :: rest := by
  unfold State.head at h
  split at h
  · exact ⟨‹_›, List.head?_eq_some_iff.mp h⟩
  · exact absurd h nofun

theorem passAnswerEcho (h : During c a d s) : During c a d s.passAnswerEcho := by
  unfold State.passAnswerEcho
  split
  · exact h
  · rename_i e he
    obtain ⟨-, rest, hf⟩ := head_eq_some he
    split
    · exact h.popAnswer e rest hf
    · exact h

theorem passStatusEcho (h : During c a d s) : During c a d s.passStatusEcho := by
  unfold State.passStatusEcho
  split
  · exact h
  · rename_i e he
    obtain ⟨-, rest, hf⟩ := head_eq_some he
    split
    · rename_i hk
      refine h.pop e rest hf ?_
      unfold Frame.isSort at hk ⊢
      cases hk' : e.frame.kind? with
      | none => simp
      | some k => cases k <;> simp_all [FrameKind.statusKind, FrameKind.answerKind]
    · exact h

/-- A received frame leaves the FIFO and restarts its tester's quiet timer. -/
theorem popQuiet {e : RxEntry} {t : Tester} (he : a.head = some e)
    (hr : e.echo = false) (ht : testerOf e.frame.source = some t)
    (hc : (testerRow c).isSome = true ∨ c = .refreshOnlyPassage) :
    a.mayAdmit c t ∧ During c a .clear (a.popHead.quietRefresh t) := by
  obtain ⟨hp, rest, hf⟩ := head_eq_some he
  have may : a.mayAdmit c t := .inr (.inr ⟨hc, e, rest, hp, hf, hr, ht⟩)
  have popped := (start (c := c) (a := a)).pop e rest hf (by simp [hr])
  refine ⟨may, ?_⟩
  unfold State.quietRefresh
  split
  · exact popped.admission t _ may
  · exact popped

theorem passRefreshOnly (hc : c = .refreshOnlyPassage) : During c a .clear a.passRefreshOnly := by
  unfold State.passRefreshOnly
  split
  · exact start
  · rename_i e he
    split
    · exact start
    · rename_i t ht
      split
      · rename_i hr
        simp only [Bool.and_eq_true, Bool.not_eq_true'] at hr
        obtain ⟨-, popped⟩ := popQuiet he hr.1 ht (.inr hc)
        dsimp only
        split
        · exact popped.count _
        · exact popped
      · exact start

/-- A guard-to-guard passage is its rule on the state that the head has left. -/
theorem guardPassage {k : FrameKind} {row : RxEntry → Bool} (hc : guardRow c = some (k, row))
    (act : Domain → RxEntry → State → State)
    (hact : ∀ k e, a.phase = .running → row e = true → guardSender a.config e.frame = some k →
      During c a .clear a.popHead → During c a .clear (act k e a.popHead)) :
    During c a .clear (a.guardPassage k row act) := by
  have hk : k.guardKind = true := by
    cases c <;> simp only [guardRow, Option.some.injEq, Prod.mk.injEq, reduceCtorEq] at hc <;>
      (obtain ⟨rfl, -⟩ := hc; rfl)
  unfold State.guardPassage
  split
  · exact start
  · rename_i e he
    obtain ⟨hp, rest, hf⟩ := head_eq_some he
    split
    · exact start
    · rename_i k' hs
      split
      · rename_i hm
        simp only [Bool.and_eq_true, decide_eq_true_eq] at hm
        have popped : During c a .clear a.popHead := start.pop e rest hf (by
          simp only [Frame.isSort, hm.1]
          cases k <;> simp_all [FrameKind.guardKind, FrameKind.answerKind])
        split
        · exact popped.count _
        · exact hact k' e hp hm.2 hs popped
      · exact start

/-- A tester frame's passage is its rule after the head has left and its quiet timer is restarted. -/
theorem testerPassage {k : FrameKind} {row : List Byte → Bool} (hc : testerRow c = some (k, row))
    (act : Tester → List Byte → State → State)
    (hact : ∀ t p, a.mayAdmit c t → a.phase = .running → During c a .clear (a.afterTesterHead t) →
      During c a .clear (act t p (a.afterTesterHead t))) :
    During c a .clear (a.testerPassage k row act) := by
  unfold State.testerPassage
  split
  · exact start
  · rename_i e he
    split
    · exact start
    · rename_i t hs
      unfold testerSender at hs
      split at hs
      · exact absurd hs nofun
      · rename_i hr
        split at hs
        · obtain ⟨may, popped⟩ := popQuiet (c := c) he (by simpa using hr) hs
            (.inl (by rw [hc]; rfl))
          split
          · dsimp only
            split
            · exact popped.count _
            · exact hact t _ may (head_eq_some he).1 popped
          · exact start
        · exact absurd hs nofun

/-! ## Expiries (R1) -/

/-- An expiry is its effect at the moment that a running timer, the soonest, ends. -/
theorem expire (hc : timerExpiry c = true) (timer : Option Timer)
    (hr : ∀ tm, a.phase = .running → timer = some tm → a.runs tm) (act : State → State)
    (hact : ∀ s, During c a .clear s → During c a .clear (act s)) :
    During c a .clear (a.expire timer act) := by
  rcases a.expire_cases timer act with h | ⟨tm, hp, ht, hs, h⟩
  · rw [h]
    exact start
  · rw [h]
    exact hact _ (time tm hc (hr tm hp ht) hs)

theorem endClaimsOf (h : During c a d s) (t : Tester) : During c a d (s.endClaimsOf t) := by
  have fold (l : List Record) : ∀ s, During c a d s →
      During c a d (l.foldl (fun s r => s.decideEnd r.id Reason.gone) s) := by
    induction l with
    | nil => exact fun s h => h
    | cons r l ih => exact fun s h => ih _ (h.decideEnd _ _)
  exact fold _ _ h

theorem orphanService (h : During c a d s) (t : Tester) : During c a d (s.orphanService t) := by
  unfold State.orphanService
  split
  · rename_i o ho
    have same : (s.onFence fun f => { f with stop := some (o.orphan t) }) =
        s.onFence fun f => { f with stop := f.stop.map (StopOrder.orphan t) } := by
      simp [State.onFence, ho]
    rw [same]
    exact h.orphanOrder t
  · refine h.service _ (fun v => ?_) (.inr fun v hv => ?_)
    · split <;> simp
    · split <;> simpa using hv

theorem endAdmission (h : During c a d s) (t : Tester) (cause : EndCause) (hc : a.mayAdmit c t) :
    During c a d (s.endAdmission t cause) := by
  unfold State.endAdmission
  split
  · have ended := h.admission t ⟨none, cause⟩ hc
    have emptied := ended.dropLane t .free nofun
    rw [← State.emptyLane_eq] at emptied
    exact (((emptied.removeEntries _ none).orphanService t).discardAnswers t).endClaimsOf t
  · exact h

/-- A request refused on its lane (R140). -/
theorem refuseAssembly (h : During c a d s) {t : Tester} {x : Assembly}
    (hl : s.memory.lanes[t] = .assembling x) (k : FrameKind) (r : Byte) (l : Lane)
    (hn : ∀ y, l ≠ .assembling y) : During c a d (s.refuseAssembly t x k r l) := by
  have dropped := h.dropLane t l hn
  rw [hl] at dropped
  exact dropped.refuseRequest ..

theorem gapExpired (h : During c a d s) (t : Tester) : During c a d (s.gapExpired t) := by
  unfold State.gapExpired
  split
  · exact h
  · rename_i x hx
    exact h.refuseAssembly hx _ _ _ nofun
  · rename_i hx
    rw [State.setLane_eq_drop s t .free (by simp [hx])]
    exact h.dropLane t .free nofun

theorem serviceLate (h : During c a .clear s) (hc : c = .serviceLimitExpiry) : During c a .clear s.serviceLate := by
  unfold State.serviceLate
  split
  · exact h
  · rename_i v hv
    have stopped := h.service (fun v => { v with limit := none }) (fun _ => ⟨rfl, rfl, rfl, rfl, rfl, rfl⟩)
      (.inr fun _ _ => rfl)
    have judged {u : State} (hu : During c a .clear u)
        (hs : u.delivery.service = some { v with limit := none }) :
        During c a .clear (if v.cls.effecting then u.askStop .serviceTimeout else u.leaveSlot v) := by
      split
      · exact hu.askStop _ (by simp [hc, asksStop]) nofun
      · rename_i he
        exact hu.leaveSlot hs ⟨rfl, rfl⟩ (.inr (by simpa using he))
    refine judged ?_ ?_
    · split
      · exact stopped
      · exact stopped.refuseRequest ..
    · split <;> simp [State.updateService, hv]

theorem stopFailed (h : During c a .clear s) (hc : c = .stopLimitExpiry) :
    During c a .clear s.stopFailed := by
  unfold State.stopFailed
  split
  · exact h
  · exact (h.incident (fun i => { i with outcome := some .timedOut }) fun _ hi => hi).takeFenceCause _ _ (.inr (.inr (.inl hc)))

theorem windowExpired (h : During c a d s) (id : ClaimId) : During c a d (s.windowExpired id) := by
  unfold State.windowExpired
  split
  · dsimp only
    split
    · exact (h.updateSponsor id _).decideClaim ..
    · exact h.updateSponsor id _
  · exact h

/-- A local mark of a record, or its hold timer, changes (R76). -/
theorem markRecord (h : During c a d s) (id : ClaimId) (f : Record → Record) (hf : Record.Mild f)
    (hr : ∀ r, (f r).replicated = r.replicated) : During c a d (s.updateRecord id f) := by
  refine h.update id f hf (.inl hr) (.inr fun r _ hs => ?_)
  have state : (f r).state = r.state := by
    have := hr r
    simp only [Record.replicated, Prod.mk.injEq] at this
    exact this.2.2.2.2.1
  simpa [Record.serving, state] using hs

theorem holdExpired (h : During c a d s) (id : ClaimId) : During c a d (s.holdExpired id) := by
  unfold State.holdExpired
  split
  · exact h
  · have stopped := h.markRecord id (fun r => { r with holdTimer := none })
      (fun r => ⟨rfl, rfl, rfl, rfl, rfl, fun hr => hr⟩) fun _ => rfl
    dsimp only
    split
    · split
      · exact (stopped.offerProtocol .cancel _).markRecord id _
          (fun r => ⟨rfl, rfl, rfl, rfl, rfl, fun hr => hr⟩) fun _ => rfl
      · exact stopped.offerProtocol .cancel _
    · exact stopped

end

end During

end Sys2Proof.Machine

/-!
PROOF. The passages of guard frames, tester frames and claims as the changes they are made of (R34 to R42,
R93 to R135, R172, R174, R193).
-/

namespace Sys2Proof.Machine

namespace During

section
variable {c : Instr} {a s : State} {d : Debt}

/-! ## Membership (R34, R37 to R42) -/

theorem memberUnit (h : During c a d s) (hc : (guardRow c).isSome = true) (f : Membership → Membership) :
    During c a d (s.onMembership f) :=
  h.membership f (.inr (by cases c <;> simp_all [guardRow, linkRow]))

theorem offerPresent (h : During c a d s) : During c a d s.offerPresent :=
  (h.membership (fun m => { m with presentOwed := !s.takesProtocol }) (.inl fun _ => rfl)).offerProtocol
    .present _

theorem resyncAgain (h : During c a d s) : During c a d s.resyncAgain := by
  unfold State.resyncAgain
  split
  · exact h.offerRevoke _
  · exact h

theorem setMember (h : During c a d s) (m : MemberState) : During c a d (s.setMember m) :=
  h.membership _ (.inl fun _ => rfl)

theorem ownJoin (h : During c a .clear s) (hc : (guardRow c).isSome = true)
    (hv : s.hold.view = a.hold.view) (k : Domain) (p : List Byte) :
    During c a .clear (s.ownJoin k p) := by
  have cleared := ((h.memberUnit hc fun m =>
      { m with outstanding := m.outstanding.eraseP fun c => c.isJoin == true && c.isCompleted }).memberUnit
    hc fun m => { m with
      roster := m.roster.set k.val ⟨if word32At p 0 = s.config.digest then .present else .foreign,
        some (word32At p 0), (StartKind.ofCode (byteAt p 5)).orElse fun _ => m.roster[k].startKind,
        some s.guardTime⟩ k.isLt }).clearRecords s.config.ownDomain Reason.peerRestart hc hv
  unfold State.ownJoin
  dsimp only
  split
  · exact cleared.setMember _
  · exact (cleared.setMember _).resyncAgain

theorem setRoster (h : During c a d s) (hc : (guardRow c).isSome = true) (k : Domain) (g : BitVec 32)
    (x : Option StartKind) : During c a d (s.setRoster k g x) := by
  unfold State.setRoster
  exact h.memberUnit hc _

theorem peerJoin (h : During c a .clear s) (hc : (guardRow c).isSome = true)
    (hv : s.hold.view = a.hold.view) (k : Domain) (p : List Byte) :
    During c a .clear (s.peerJoin k p) := by
  unfold State.peerJoin
  split
  · exact h.count _
  · rename_i x _
    have cleared := (h.setRoster hc k (word32At p 0) (some x)).clearRecords k Reason.peerRestart hc hv
    dsimp only
    split
    · exact cleared.offerPresent
    · exact cleared.memberUnit hc _
    · exact cleared

theorem passPresent (h : During c a d s) (hc : (guardRow c).isSome = true) (k : Domain) (e : RxEntry) :
    During c a d (s.passPresent k e) := by
  unfold State.passPresent
  split
  · exact h
  · split
    · exact h.setRoster hc ..
    · exact h.count _

theorem afterOwnRevoke (h : During c a d s) (b : Bool) : During c a d (s.afterOwnRevoke b) := by
  unfold State.afterOwnRevoke
  split
  · split
    · dsimp only
      split
      · exact (h.setMember _).offerPresent
      · exact h.setMember _
    · exact h.resyncAgain
  · exact h

theorem ownRevoke (h : During c a .clear s) (hc : (guardRow c).isSome = true)
    (hv : s.hold.view = a.hold.view) (k : Domain) (p : List Byte) :
    During c a .clear (s.ownRevoke k p) :=
  (((h.memberUnit hc _).clearRecords _ _ hc hv).post ..).afterOwnRevoke _

theorem peerRevoke (h : During c a .clear s) (hc : (guardRow c).isSome = true)
    (hv : s.hold.view = a.hold.view) (k : Domain) (p : List Byte) :
    During c a .clear (s.peerRevoke k p) := by
  unfold State.peerRevoke
  split
  · exact (h.clearRecords _ _ hc hv).post ..
  · exact h.count _

/-! ## ANNOUNCE (R98 to R104) -/

theorem vote (h : During c a d s) (id : ClaimId) (k : AnnounceKind) (reason : Option Byte)
    (hf : reason = none → a.fence.fenced = false) : During c a d (s.vote id k reason) := by
  unfold State.vote
  split
  · exact h.offerProtocol .consent _ rfl fun _ => hf rfl
  · exact h.offerProtocol .object _

/-- A well-formed ANNOUNCE carries its home's domain, its scope and an effecting class (R98). -/
theorem readAnnounce_eq_some {k : Domain} {p : List Byte} {x : Announce}
    (h : readAnnounce k p = some x) :
    homeOf x.id = k.val ∧ x.scope = announceScope p ∧ x.cls.effecting = true := by
  unfold readAnnounce claimClass at h
  split at h
  · rename_i hk
    obtain ⟨-, hd⟩ := Bool.and_eq_true_iff.mp hk
    split at h
    · rename_i g ht hg
      obtain rfl : _ = x := Option.some.inj h
      refine ⟨by simpa using hd, rfl, ?_⟩
      split at hg
      · split at hg
        · rename_i he
          obtain rfl : _ = g := Option.some.inj hg
          exact he
        · exact absurd hg nofun
      · exact absurd hg nofun
    · exact absurd h nofun
  · exact absurd h nofun

theorem passAnnounce (h : During c a d s) (k : Domain) (p : List Byte)
    (sponsor voter : Announce → State → State)
    (hs : ∀ x, inSet s.config.ownDomain x.scope = true → x.cls.effecting = true →
      homeOf x.id = s.config.ownDomain.val → During c a d (sponsor x s))
    (hv : ∀ x, inSet s.config.ownDomain x.scope = true → x.cls.effecting = true →
      homeOf x.id = k.val → k ≠ s.config.ownDomain → During c a d (voter x s)) :
    During c a d (s.passAnnounce k p sponsor voter) := by
  unfold State.passAnnounce
  split
  · rename_i hi
    split
    · exact h.count _
    · rename_i x hx
      obtain ⟨hh, hsc, he⟩ := readAnnounce_eq_some hx
      split
      · rename_i hk
        exact hs x (hsc ▸ hi) he (hk ▸ hh)
      · rename_i hk
        exact hv x (hsc ▸ hi) he hh hk
  · exact h

/-- A voter consents only outside FENCED, with room, no record of the id and no conflict (R88, R99). -/
theorem voterNewReason_eq_none {k : Domain} {x : Announce} (h : s.voterNewReason k x = none) :
    s.fence.fenced = false ∧ s.record? x.id = none ∧ s.hasRoom = true ∧ s.conflicts x.cls = false := by
  unfold State.voterNewReason State.newMatches State.voterConsent at h
  repeat' split at h
  all_goals simp_all

theorem voterNew (h : During c a d s) (hc : (guardRow c).isSome = true) (hp : s.phase = .running)
    (hf : s.fence = a.fence) (k : Domain) (x : Announce)
    (hi : inSet s.config.ownDomain x.scope = true) (he : x.cls.effecting = true)
    (hh : homeOf x.id = k.val) (hk : k ≠ s.config.ownDomain) : During c a d (s.voterNew k x) := by
  have away : homeOf x.id ≠ s.config.ownDomain.val := fun e => hk (Fin.ext (hh ▸ e))
  unfold State.voterNew
  split
  · exact h.vote _ _ _ nofun
  · rename_i hr
    obtain ⟨hn, hrec, hroom, hx⟩ := voterNewReason_eq_none hr
    have sound (w : Option Timer) : (x.record w none).sound s.config.ownDomain = true := by
      simp [Record.sound, Announce.record, Record.occupying, hi, he, away]
    refine (h.create (x.record _ none) hc (sound _) hrec away hroom hx hp).vote _ _ _ fun _ => ?_
    rw [← hf]
    exact hn

theorem sponsorNewReason_eq_none {v : Reservation} {x : Announce} (h : s.sponsorNewReason v x = none) :
    s.conflicts x.cls = false := by
  unfold State.sponsorNewReason State.sponsorConsent at h
  repeat' split at h
  all_goals simp_all

theorem sponsorConsents (h : During c a d s) (hc : (guardRow c).isSome = true) (hp : s.phase = .running)
    {v : Reservation} {x : Announce} (hv : s.reservation? x.id = some v) (hx : s.conflicts x.cls = false)
    (hi : inSet s.config.ownDomain x.scope = true) (he : x.cls.effecting = true)
    (hh : homeOf x.id = s.config.ownDomain.val) : During c a d (s.sponsorConsents v x) := by
  have sound (q : Sponsor) : (x.record none (some q)).sound s.config.ownDomain = true := by
    simp [Record.sound, Announce.record, Record.occupying, hi, he, hh]
  have created (q : Sponsor) : During c a d
      ((s.releaseReservation x.id).createRecord (x.record none (some q))) :=
    h.createReserved (x.record none (some q)) v hc (sound q) hv hx hp
  unfold State.sponsorConsents
  dsimp only
  split
  · exact ((created _).offerClaimStatus ..).decideClaim ..
  · exact (created _).offerClaimStatus ..

theorem sponsorNew (h : During c a d s) (hc : (guardRow c).isSome = true) (hp : s.phase = .running)
    (x : Announce) (hi : inSet s.config.ownDomain x.scope = true) (he : x.cls.effecting = true)
    (hh : homeOf x.id = s.config.ownDomain.val) : During c a d (s.sponsorNew x) := by
  unfold State.sponsorNew
  split
  · exact h
  · rename_i v hv
    split
    · rename_i hr
      exact h.sponsorConsents hc hp hv (sponsorNewReason_eq_none hr) hi he hh
    · exact ((((h.release _).offerProtocol .verdict _).offerClaimStatus ..).count _).post ..

/-- A SUSPENDED record is served by no request, so it may become RESUMING (R103, R104). -/
theorem resume (h : During c a d s) (hc : (guardRow c).isSome = true) {id : ClaimId} {r : Record}
    (hr : s.record? id = some r) (hs : r.state = .suspended) (b : Bool) (w : Record → Option Timer) :
    During c a d (s.updateRecord id fun x =>
      { x with state := .resuming, consented := b, holdTimer := w x }) := by
  refine h.update id _ (fun _ => ⟨rfl, rfl, rfl, rfl, rfl, fun _ => rfl⟩) (.inr hc) (.inr ?_)
  intro x hx hserv
  obtain rfl : r = x := Option.some.inj (hr.symm.trans hx)
  simp [Record.serving, hs] at hserv

theorem suspendedRecord_eq_some {id : ClaimId} {r : Record} (h : s.suspendedRecord id = some r) :
    s.record? id = some r ∧ r.state = .suspended := by
  unfold State.suspendedRecord at h
  repeat' split at h
  all_goals simp_all

theorem voterResume (h : During c a d s) (hc : (guardRow c).isSome = true) (hf : s.fence = a.fence)
    (x : Announce) : During c a d (s.voterResume x) := by
  have consent (hr : s.voterResumeReason x.id = none) : a.fence.fenced = false := by
    unfold State.voterResumeReason at hr
    repeat' split at hr
    all_goals simp_all
  unfold State.voterResume
  dsimp only
  refine vote ?_ _ _ _ consent
  split
  · exact h
  · rename_i r hr
    obtain ⟨hrec, hst⟩ := suspendedRecord_eq_some hr
    exact h.resume hc hrec hst _ _

theorem sponsorResume (h : During c a d s) (hc : (guardRow c).isSome = true) (x : Announce) :
    During c a d (s.sponsorResume x) := by
  have resumed {r : Record} (hr : s.record? r.id = some r) (hs : r.state = .suspended) (b : Bool) :=
    h.resume hc hr hs b fun x => x.holdTimer
  unfold State.sponsorResume
  split
  · rename_i r p hst
    split
    · rename_i hs
      have hr : s.record? r.id = some r := by
        obtain ⟨hr, -⟩ := State.standing_here.mp hst
        rw [State.record?_id hr]
        exact hr
      split
      · unfold State.sponsorResumes
        dsimp only
        split
        · exact (resumed hr hs _).updateSponsor _ _
        · split
          · exact (((resumed hr hs _).updateSponsor _ _).reportClaim ..).decideClaim ..
          · exact ((resumed hr hs _).updateSponsor _ _).reportClaim ..
      · unfold State.sponsorResumeFails
        dsimp only
        split
        · exact resumed hr hs _
        · exact (resumed hr hs _).decideClaim ..
    · exact h
  · exact h

/-! ## Votes and VERDICT (R107 to R111) -/

theorem passVote (h : During c a d s) (k : Domain) (p : List Byte)
    (current : Record → Sponsor → State → State) (hcur : ∀ r q, During c a d (current r q s)) :
    During c a d (s.passVote k p current) := by
  unfold State.passVote
  split
  · split
    · exact h.count _
    · split
      · exact h.count _
      · split
        · exact h.count _
        · split
          · exact hcur _ _
          · exact h.count _
  · exact h

theorem applyConsent (h : During c a d s) (k : Domain) (r : Record) (p : Sponsor) :
    During c a d (s.applyConsent k r p) := by
  unfold State.applyConsent
  dsimp only
  split
  · exact (h.updateSponsor _ _).decideClaim ..
  · exact h.updateSponsor _ _

/-- A record found after a change that keeps ids was found before it, changed by it. -/
theorem record?_updateRecord {id : ClaimId} {f : Record → Record} (hf : ∀ r, (f r).id = r.id)
    {r : Record} (h : (s.updateRecord id f).record? id = some r) :
    ∃ x, s.record? id = some x ∧ r = f x := by
  rw [State.updateRecord_record? s id f hf] at h
  obtain ⟨x, hx, rfl⟩ := Option.map_eq_some_iff.mp h
  exact ⟨x, hx, rfl⟩

/-- A VERDICT is applied to the record as the cleared mark leaves it: found before with the same id, and
homed elsewhere just when that one was. -/
theorem passVerdict (h : During c a d s) (k : Domain) (p : List Byte) (apply : Record → State → State)
    (hap : ∀ u r, During c a d u → u.record? r.id = some r →
      (r.sponsor = none → ∃ x ∈ s.hold.view, x.id = r.id ∧ x.sponsor = none) →
      During c a d (apply r u)) :
    During c a d (s.passVerdict k p apply) := by
  have cleared := h.updateSponsor (word16At p 0) fun q => { q with decided := false }
  unfold State.passVerdict
  split
  · dsimp only
    split
    · exact cleared
    · rename_i r hr
      refine hap _ r cleared (by rw [State.record?_id hr]; exact hr) fun hn => ?_
      obtain ⟨x, hx, rfl⟩ := record?_updateRecord (f := fun r => r.onSponsor fun q =>
        { q with decided := false }) (fun _ => rfl) hr
      exact ⟨x, State.record?_mem hx, rfl, by simpa [Record.onSponsor] using hn⟩
  · exact h.count _

theorem holdClaim (h : During c a d s) (hc : (guardRow c).isSome = true) (r : Record) (n : NoticeKind)
    (e : TrailEvent) : During c a d (s.holdClaim r n e) := by
  have held := h.update r.id (Record.becomeHeld fun lease => ⟨s.guardTime, 1000 * lease⟩)
    (fun _ => ⟨rfl, rfl, rfl, rfl, by simp [Record.becomeHeld], fun _ => rfl⟩) (.inr hc)
    (.inr fun _ _ _ => rfl)
  unfold State.holdClaim
  dsimp only
  split
  · exact held
  · exact ((held.reportClaim ..).claimNotice ..).post ..

/-- A record becomes SUSPENDED (R76): no request waited for it, or it is homed elsewhere. -/
theorem suspendQuiet (h : During c a d s) (hc : (guardRow c).isSome = true) {r : Record}
    (hs : a.homedElsewhere r.id ∨ ∀ x, s.record? r.id = some x → x.serving = false) :
    During c a d (s.updateRecord r.id Record.suspend) := by
  refine h.update r.id _ (fun _ => ⟨rfl, rfl, rfl, rfl, by simp [Record.suspend], fun _ => rfl⟩) (.inr hc)
    (hs.imp_right fun hq x hx hserv => ?_)
  simp [hq x hx] at hserv

/-- A negotiation is settled against a claim (R111, R113): `r` is its record but for local marks. -/
theorem settleAgainst (h : During c a .clear s) (hc : (guardRow c).isSome = true) {r : Record}
    (hrec : ∀ x, s.record? r.id = some x → x.state = r.state)
    (hn : r.sponsor = none → a.homedElsewhere r.id) (b : Byte) (i : Option ClaimId) :
    During c a .clear (s.settleAgainst r b i) := by
  unfold State.settleAgainst
  split
  · split
    · rename_i hq
      exact h.removeElsewhere _ hc (hn hq)
    · exact (h.remove _ hc).reportRefusal ..
  · rename_i hst
    have suspended := h.suspendQuiet hc (r := r) (.inr fun x hx => by
      simp [Record.serving, hrec x hx, hst])
    dsimp only
    split
    · exact suspended
    · exact suspended.reportNotResumed ..
  · exact h

/-! ## CANCEL, BREAK and END (R113, R125 to R131) -/

/-- The local mark that the own frame's echo clears leaves the record's state. -/
theorem state_of_marked {id : ClaimId} {b : Bool} {f : Record → Record} {r : Record}
    (hr : s.record? id = some r) (hf : ∀ x, (f x).id = x.id ∧ (f x).state = x.state) {x : Record}
    (hx : (if b = true then s.updateRecord id f else s).record? id = some x) : x.state = r.state := by
  split at hx
  · obtain ⟨y, hy, rfl⟩ := record?_updateRecord (fun r => (hf r).1) hx
    obtain rfl : r = y := Option.some.inj (hr.symm.trans hy)
    exact (hf _).2
  · obtain rfl : r = x := Option.some.inj (hr.symm.trans hx)
    rfl

theorem passCancel (h : During c a .clear s) (hc : (guardRow c).isSome = true)
    (hv : s.hold.view = a.hold.view) (k : Domain) (e : RxEntry) :
    During c a .clear (s.passCancel k e) := by
  unfold State.passCancel
  dsimp only
  split
  · exact h
  · rename_i r hr
    have hid := State.record?_id hr
    split
    · exact h.count _
    · refine settleAgainst ?_ hc (fun x hx => ?_) (fun hn => ?_) _ _
      · split
        · exact h.markRecord _ _ (fun _ => ⟨rfl, rfl, rfl, rfl, rfl, fun hr => hr⟩) fun _ => rfl
        · exact h
      · rw [hid] at hx
        refine state_of_marked hr ?_ hx
        exact fun _ => ⟨rfl, rfl⟩
      · exact ⟨r, hv ▸ State.record?_mem hr, rfl, hn⟩

theorem breakRecord (h : During c a .clear s) (hc : (guardRow c).isSome = true) {r : Record}
    (hrec : ∀ x, s.record? r.id = some x → x.state = r.state)
    (hn : r.sponsor = none → a.homedElsewhere r.id) : During c a .clear (s.breakRecord r) := by
  unfold State.breakRecord
  split
  · dsimp only
    split
    · rename_i hq
      exact h.removeElsewhere _ hc (hn hq)
    · exact ((((h.remove _ hc).handClaimChange _ _).reportClaim ..).count _).post ..
  · dsimp only
    split
    · rename_i hq
      exact h.suspendQuiet hc (.inl (hn hq))
    · exact ((((h.suspend _ hc).handClaimChange _ _).claimNotice ..).reportClaim ..).post ..
  · rename_i hst
    have suspended := h.suspendQuiet hc (r := r) (.inr fun x hx => by
      simp [Record.serving, hrec x hx, hst])
    dsimp only
    split
    · exact suspended
    · exact suspended.reportNotResumed ..
  · exact h

theorem passBreak (h : During c a .clear s) (hc : (guardRow c).isSome = true)
    (hv : s.hold.view = a.hold.view) (k : Domain) (e : RxEntry) :
    During c a .clear (s.passBreak k e) := by
  unfold State.passBreak
  dsimp only
  split
  · exact h
  · rename_i r hr
    have hid := State.record?_id hr
    split
    · exact h.count _
    · refine breakRecord ?_ hc (fun x hx => ?_) fun hn => ?_
      · split
        · exact h.markRecord _ _ (fun _ => ⟨rfl, rfl, rfl, rfl, rfl, fun hr => hr⟩) fun _ => rfl
        · exact h
      · rw [hid] at hx
        refine state_of_marked hr ?_ hx
        exact fun _ => ⟨rfl, rfl⟩
      · exact ⟨r, hv ▸ State.record?_mem hr, rfl, hn⟩

theorem passEnd (h : During c a .clear s) (hc : (guardRow c).isSome = true)
    (hv : s.hold.view = a.hold.view) (k : Domain) (p : List Byte) :
    During c a .clear (s.passEnd k p) := by
  unfold State.passEnd
  split
  · split
    · exact h
    · rename_i r hr
      exact h.endRecord _ _ hc fun hn => ⟨r, hv ▸ State.record?_mem hr, rfl, hn⟩
  · exact h.count _

/-! ## ADMIT, CLAIM and the tester frames that name a claim (R48, R93 to R97, R115 to R117, R122, R132) -/

theorem passAdmit (h : During c a d s) {t : Tester} (hc : a.mayAdmit c t) (p : List Byte) :
    During c a d (s.passAdmit t p) := by
  have applied (r : Byte) : During c a d (s.applyTicket t p r) := by
    unfold State.applyTicket
    split
    · exact (h.admission t _ hc).post ..
    · split
      · exact h
      · exact (h.count _).post ..
  exact (applied _).offerStatus .admitAck _ _

/-- A CLAIM is accepted only with room in the view (R81, R94). -/
theorem judgeClaim_eq_inr {t : Tester} {b : Byte} {g : Sys2Proof.Class}
    (h : s.judgeClaim t b = .inr g) : s.hasRoom = true := by
  unfold State.judgeClaim State.claimRefusalFor at h
  repeat' split at h
  all_goals simp_all
  rename_i hr
  repeat' split at hr
  all_goals simp_all

theorem passClaim (h : During c a d s) (hp : s.phase = .running) (t : Tester) (p : List Byte) :
    During c a d (s.passClaim t p) := by
  unfold State.passClaim
  split
  · exact ((h.offerStatus .claimStatus _ _).count _).post ..
  · rename_i g hj
    have told := (h.reserve (s.newReservation t p g) (judgeClaim_eq_inr hj) rfl hp).offerProtocol
      .announce (s.newReservation t p g).announce
    unfold State.acceptClaim
    dsimp only
    split
    · exact told
    · exact (((told.release _).offerClaimStatus ..).count _).post ..

theorem claimFrame (h : During c a d s) (k : FrameKind) (t : Tester) (p : List Byte)
    (act : Record → Sponsor → State → State) (hact : ∀ r q, During c a d (act r q s)) :
    During c a d (s.claimFrame k t p act) := by
  unfold State.claimFrame
  split
  · exact h.offerResult ..
  · split
    · split
      · exact hact _ _
      · exact h.offerResult ..
    · exact h.offerResult ..

theorem renewClaim (h : During c a d s) (r : Record) (p : Sponsor) : During c a d (s.renewClaim r p) := by
  unfold State.renewClaim
  split
  · exact h.reportClaim ..
  · exact (h.updateSponsor _ _).reportClaim ..

theorem continueClaim (h : During c a d s) (r : Record) (p : Sponsor) :
    During c a d (s.continueClaim r p) := by
  unfold State.continueClaim
  split
  · exact h.reportClaim ..
  · split
    · exact h.reportClaim ..
    · exact (h.updateSponsor _ _).reportClaim ..

theorem releaseClaim (h : During c a d s) (r : Record) (p : Sponsor) :
    During c a d (s.releaseClaim r p) := by
  unfold State.releaseClaim
  split
  · exact h.reportClaim ..
  · exact h.decideEnd ..

theorem resumeClaim (h : During c a d s) (r : Record) (p : Sponsor) :
    During c a d (s.resumeClaim r p) := by
  unfold State.resumeClaim
  split
  · exact h.reportClaim ..
  · dsimp only
    split
    · exact h.offerProtocol .announce _
    · exact (h.offerProtocol .announce _).reportClaim ..

/-! ## FENCE, LIFT and QUERY (R172, R174, R193) -/

theorem passFence (h : During c a .clear s) (hc : c = .fenceFramePassage) (t : Tester) :
    During c a .clear (s.passFence t) := by
  unfold State.passFence
  refine offerResult ?_ _ _ _ _ _
  split
  · exact h.takeFenceCause _ _ (.inr (.inl hc))
  · exact h

theorem passLift (h : During c a .clear s) (hc : c = .liftPassage) (t : Tester) :
    During c a .clear (s.passLift t) := by
  unfold State.passLift
  refine offerResult ?_ _ _ _ _ _
  split
  · refine ((((h.lift hc).incident _ fun i hi => ?_).marker false nofun).notice _ rfl).post ..
    split at hi
    · exact absurd hi nofun
    · exact hi
  · exact h

theorem passQuery (h : During c a d s) (t : Tester) (p : List Byte) (answer : State → List Byte)
    (effect : State → State) (he : ∀ u, During c a d u → During c a d (effect u)) :
    During c a d (s.passQuery t p answer effect) := by
  unfold State.passQuery
  split
  · exact h.offerResult ..
  · split
    · exact he _ (h.stageAudit _ _ _ ‹_›)
    · exact h.offerResult ..

theorem thawTrail (h : During c a d s) (t : Tester) : During c a d (s.thawTrail t) := by
  unfold State.thawTrail
  split
  · exact h
  · exact h.trail _ fun x => x.grows_thaw _

end

end During

end Sys2Proof.Machine

/-!
PROOF. Requests from the backbone and the ECU link's commands as the changes they are made of (R61 to R70,
R138 to R163, R177 to R186), and with them every command.
-/

namespace Sys2Proof.Machine

@[simp] theorem length_takeZero (p : List Byte) (i n : Nat) : (takeZero p i n).length = n := by
  simp [takeZero]

/-- A request of one segment is whole with its first (R9, R138). -/
theorem total_le_firstData {p : List Byte} (h : lastSegment (reqTotal p) = 0) :
    reqTotal p ≤ (firstData p).length := by
  unfold lastSegment at h
  simp only [firstData, length_takeZero]
  split at h <;> omega

@[simp] theorem State.setLane_lane (s : State) (t : Tester) (l : Lane) :
    (s.setLane t l).memory.lanes[t] = l := by
  simp [State.setLane]

/-- The arbiter chooses an eligible entry of the queue (R146, R148). -/
theorem State.arbiter_eq_some {s : State} {e : QueueEntry} (h : s.arbiter = some e) :
    e ∈ s.delivery.queue ∧ s.eligible e = true := by
  have fold (l : List QueueEntry) : ∀ b, l.foldl betterEntry b = some e → b = some e ∨ e ∈ l := by
    induction l with
    | nil => exact fun b hb => .inl hb
    | cons x l ih =>
      intro b hb
      rcases ih _ hb with hx | hx
      · unfold betterEntry at hx
        split at hx
        · exact .inr (by simp_all)
        · split at hx
          · exact .inr (by simp_all)
          · exact .inl hx
      · exact .inr (.tail _ hx)
  have mem := (fold _ none h).resolve_left nofun
  exact List.mem_filter.mp mem

namespace During

section
variable {c : Instr} {a s : State} {d : Debt}

/-! ## Completion (R69, R70, R143) -/

/-- A claim that allows a request serves it (R139, R143). -/
theorem serves_of_effectingClaimOk {t : Tester} {g : Sys2Proof.Class} {id : ClaimId}
    (h : s.effectingClaimOk t g id = true) : (s.standing id).serves t = true := by
  unfold State.effectingClaimOk at h
  cases hst : s.standing id <;> simp_all [Standing.serves]

theorem serves_of_readClaimOk {t : Tester} {id : ClaimId} (h : s.readClaimOk t id = true) :
    (s.standing id).serves t = true := by
  unfold State.readClaimOk at h
  cases hst : s.standing id <;> simp_all [Standing.serves]

/-- A request whose checks pass at completion is served by its claim, and no effecting one passes while
FENCED (R143). -/
theorem completionRefusal_eq_none {t : Tester} {x : Assembly} (h : s.completionRefusal t x = none) :
    (x.claim = noClaim ∨ (s.standing x.claim).serves t = true) ∧
      (x.cls.effecting = true → s.fence.fenced = false) := by
  unfold State.completionRefusal at h
  split at h
  · exact absurd h nofun
  split at h
  · exact absurd h nofun
  split at h
  · exact absurd h nofun
  rename_i heff hread hfence
  refine ⟨or_iff_not_imp_left.mpr fun hn => ?_, fun he => by simpa [he] using hfence⟩
  cases he : x.cls.effecting with
  | true => exact serves_of_effectingClaimOk (by simpa [hn, he] using heff)
  | false => exact serves_of_readClaimOk (by simpa [hn, he] using hread)

theorem enqueueRequest (h : During c a .clear s) (hc : c = .reqFirstPassage ∨ c = .reqNextPassage)
    {t : Tester} {x : Assembly} (hl : s.memory.lanes[t] = .assembling x) (hx : x.total ≤ x.data.length)
    (k : FrameKind) : During c a .clear (s.enqueue t x k) := by
  unfold State.enqueue
  split
  · exact h.refuseAssembly hl _ _ _ nofun
  · rename_i hr
    obtain ⟨hs, hf⟩ := completionRefusal_eq_none hr
    exact h.enqueue t x (s.newEntry t x) hc hl hx ⟨rfl, rfl, rfl, rfl, rfl⟩ hs hf

theorem answerStanding (h : During c a d s) {t : Tester} {x : Assembly}
    (hl : s.memory.lanes[t] = .assembling x) (k : FrameKind) (content : List Byte) :
    During c a d (s.answerStanding t x k content) := by
  unfold State.answerStanding
  split
  · exact h.refuseAssembly hl _ _ _ nofun
  · rename_i hr
    rw [not_or, not_lt, not_le] at hr
    exact (h.standing t x ⟨t, x.tag, .standing, x.cls, content, 0⟩ hl rfl hr.1 hr.2).count _

theorem completeRequest (h : During c a .clear s) (hc : c = .reqFirstPassage ∨ c = .reqNextPassage)
    {t : Tester} {x : Assembly} (hl : s.memory.lanes[t] = .assembling x) (hx : x.total ≤ x.data.length)
    (k : FrameKind) : During c a .clear (s.completeRequest t x k) := by
  unfold State.completeRequest
  split
  · exact h.enqueueRequest hc hl hx k
  · split
    · exact h.enqueueRequest hc hl hx k
    · exact h.answerStanding hl k _

/-! ## REQ_FIRST and REQ_NEXT (R139 to R141) -/

/-- The checks of R139 from the sixth on that a classified request has passed. -/
theorem reqRefusalFor_eq_none {t : Tester} {g : Sys2Proof.Class} {n : Nat} {id : ClaimId}
    (h : s.reqRefusalFor t g n id = none) :
    s.queueHasPlace t = true ∧ blocksFor n + Config.blockReserve ≤ s.memory.free ∧
      (g.effecting = true → id ≠ noClaim) := by
  unfold State.reqRefusalFor at h
  split at h
  · exact absurd h nofun
  split at h
  · exact absurd h nofun
  rename_i hclaim
  split at h
  · exact absurd h nofun
  split at h
  · exact absurd h nofun
  split at h
  · exact absurd h nofun
  rename_i hplace hblocks
  refine ⟨by simpa using hplace, not_lt.mp hblocks, fun he hn => ?_⟩
  simp [State.claimCheck, he, hn] at hclaim

/-- The checks of R139 that an accepted REQ_FIRST has passed. -/
theorem judgeRequest_eq_inr {t : Tester} {p : List Byte} {e : Pattern}
    (h : s.judgeRequest t p = .inr e) :
    s.laneFree t = true ∧ s.tagInUse t (byteAt p 0) = false ∧
      s.reqRefusalFor t e.cls (reqTotal p) (reqClaim p) = none := by
  unfold State.judgeRequest at h
  split at h
  · exact absurd h nofun
  split at h
  · exact absurd h nofun
  split at h
  · exact absurd h nofun
  split at h
  · exact absurd h nofun
  rename_i htag hlane _
  split at h
  · exact absurd h nofun
  rename_i e' _
  split at h
  · exact absurd h nofun
  rename_i hr
  obtain rfl : e' = e := Sum.inr.inj h
  exact ⟨by simpa using hlane, by simpa using htag, hr⟩

theorem beginAssembly (h : During c a .clear s) (hc : c = .reqFirstPassage) {t : Tester} {p : List Byte}
    {e : Pattern} (hj : s.judgeRequest t p = .inr e) :
    During c a .clear (s.beginAssembly t (s.newAssembly p e)) := by
  obtain ⟨hl, htag, hr⟩ := judgeRequest_eq_inr hj
  obtain ⟨hq, hb, hn⟩ := reqRefusalFor_eq_none hr
  have begun := h.assemble t (s.newAssembly p e) hl htag hq hb
    (by simp [State.newAssembly, firstData]) hn
  unfold State.beginAssembly
  dsimp only
  split
  · rename_i hlast
    exact begun.completeRequest (.inl hc) (State.setLane_lane _ t _) (total_le_firstData hlast) _
  · exact begun

theorem endDiscarding (h : During c a d s) (t : Tester) : During c a d (s.endDiscarding t) := by
  unfold State.endDiscarding
  split
  · rename_i hx
    rw [State.setLane_eq_drop s t .free (by simp [hx])]
    exact h.dropLane t .free nofun
  · exact h

/-- A lane that is FREE takes a DISCARDING state (R140). -/
theorem discard (h : During c a d s) {t : Tester} (hl : ∀ x, s.memory.lanes[t] ≠ .assembling x) (b : Byte)
    (n : Nat) (g : Timer) : During c a d (s.setLane t (.discarding b n g)) := by
  rw [State.setLane_eq_drop s t _ hl]
  exact h.dropLane t _ nofun

theorem refuseFirst (h : During c a d s) (t : Tester) (p : List Byte) (r : Byte)
    (x : Option Sys2Proof.Class) : During c a d (s.refuseFirst t p r x) := by
  have refused := h.refuseRequest .reqFirst t (byteAt p 0) r (reqClaim p) x (reqTotal p) (firstData p)
  unfold State.refuseFirst State.laneAfterRefusal
  dsimp only
  split
  · exact refused
  · split
    · rename_i hl
      simp only [Bool.and_eq_true, State.laneFree, beq_iff_eq] at hl
      refine refused.discard (fun x => ?_) _ _ _
      rw [hl.1]
      exact nofun
    · exact refused

theorem passReqFirst (h : During c a .clear s) (hc : c = .reqFirstPassage) (t : Tester) (p : List Byte) :
    During c a .clear (s.passReqFirst t p) := by
  unfold State.passReqFirst
  dsimp only
  split
  · exact (h.endDiscarding t).refuseFirst ..
  · exact (h.endDiscarding t).beginAssembly hc ‹_›

theorem assembleSegment (h : During c a .clear s) (hc : c = .reqNextPassage) {t : Tester} {x : Assembly}
    (hl : s.memory.lanes[t] = .assembling x) (p : List Byte) :
    During c a .clear (s.assembleSegment t x p) := by
  unfold State.assembleSegment
  split
  · have stored := h.segment t x (s.storeSegment x p) hl ⟨rfl, rfl, rfl, rfl⟩ fun hx => by
      simp only [State.storeSegment, nextData, List.length_append, length_takeZero]
      omega
    dsimp only
    split
    · exact stored.completeRequest (.inr hc) (State.setLane_lane _ t _) ‹_› _
    · exact stored
  · exact h.refuseAssembly hl _ _ _ nofun

theorem passReqNext (h : During c a .clear s) (hc : c = .reqNextPassage) (t : Tester) (p : List Byte) :
    During c a .clear (s.passReqNext t p) := by
  unfold State.passReqNext
  split
  · exact h
  · split
    · exact h.assembleSegment hc ‹_› p
    · exact h
  · rename_i hx
    split
    · split
      · rw [State.setLane_eq_drop s t .free (by simp [hx])]
        exact h.dropLane t .free nofun
      · exact h.discard (by simp [hx]) _ _ _
    · exact h

/-! ## ABORT_REQ (R158) -/

theorem abortInService (h : During c a .clear s) (hc : c = .abortReqPassage) (t : Tester) (b : Byte) :
    During c a .clear (s.abortInService t b) := by
  unfold State.abortInService State.abortResult
  split
  · exact h.offerResult ..
  · split
    · split
      · split
        · exact h.askStop _ (by simp [hc, asksStop]) nofun
        · exact h.offerResult ..
      · exact h.offerResult ..
    · exact h.offerResult ..

theorem abortQueued (h : During c a .clear s) (hc : c = .abortReqPassage) (t : Tester) (b : Byte) :
    During c a .clear (s.abortQueued t b) := by
  unfold State.abortQueued
  split
  · exact (h.removeEntries ..).requestResult ..
  · exact h.abortInService hc t b

theorem passAbort (h : During c a .clear s) (hc : c = .abortReqPassage) (t : Tester) (b : Byte) :
    During c a .clear (s.passAbort t b) := by
  unfold State.passAbort State.abortResult
  split
  · exact h.offerResult ..
  · split
    · rename_i x hx
      split
      · have dropped := h.dropLane t (.discarding x.tag x.lastIndex s.gapTimer) nofun
        rw [hx] at dropped
        exact dropped.requestResult ..
      · exact h.abortQueued hc t b
    · exact h.abortQueued hc t b

/-! ## The ECU link (R148 to R154, R162, R163, R177 to R186) -/

theorem takeCommand (act : State → State)
    (hact : a.phase = .running → During c a .clear (act a)) : During c a .clear (a.takeCommand act) := by
  rcases a.takeCommand_cases act with h | h | ⟨hp, h⟩
  · rw [h]
    exact start
  · rw [h]
    exact start.respond _ _
  · rw [h]
    exact hact hp

theorem takeWithLength (data : List Byte) (lo hi : Nat) (act : State → State)
    (hact : During c a .clear (act a)) : During c a .clear (a.takeWithLength data lo hi act) := by
  refine takeCommand _ fun _ => ?_
  split
  · exact hact
  · exact start.respond _ _

theorem takePost (bytes : List Byte) (act : Service → State → State)
    (hact : ∀ v, a.delivery.service = some v → During c a .clear (act v a)) :
    During c a .clear (a.takePost bytes act) := by
  refine takeWithLength _ _ _ _ ?_
  split
  · exact start.respond _ _
  · exact hact _ ‹_›

/-- A change of the record of a claim that a request named is local to its sponsor part. -/
theorem chargeClaim (h : During c a d s) (id : ClaimId) : During c a d (s.chargeClaim id) :=
  h.markRecord id _ (fun r => ⟨rfl, rfl, rfl, rfl, by simp [Record.onSponsor], fun hr => hr⟩) fun _ => rfl

theorem handOverEntry (h : During c a d s) {data : List Byte} (hc : c = .take data) {e : QueueEntry}
    (he : e ∈ s.delivery.queue) (hs : s.eligible e = true) : During c a d (s.handOver e) := by
  simp only [State.eligible, Bool.and_eq_true, Option.isNone_iff_eq_none, Bool.or_eq_true,
    Bool.not_eq_true'] at hs
  obtain ⟨⟨⟨⟨hv, ho⟩, -⟩, -⟩, hf⟩ := hs
  have handed := (h.handOver e (s.newService e) ⟨data, hc⟩ he hv ho
    (fun hx => hf.resolve_left (by simp [hx])) ⟨rfl, rfl, rfl, rfl, rfl, rfl⟩).count Counter.delivered
  have began {u : State} (hu : During c a d u) : During c a d (u.beginOperation e) :=
    ((hu.marker true fun _ => ⟨data, hc⟩).setOperation _ _).post ..
  unfold State.handOver
  dsimp only
  split
  · split
    · exact began handed
    · exact began (handed.chargeClaim _)
  · split
    · exact handed
    · exact handed.chargeClaim _

theorem takeRequest (h : During c a d s) {data : List Byte} (hc : c = .take data) :
    During c a d s.takeRequest := by
  unfold State.takeRequest
  split
  · exact h.respond _ _
  · split
    · exact h.respond _ _
    · rename_i e he
      obtain ⟨hm, hs⟩ := State.arbiter_eq_some he
      exact (h.handOverEntry hc hm hs).respond _ _

theorem readRequest (h : During c a d s) (data : List Byte) : During c a d (s.readRequest data) := by
  unfold State.readRequest
  split
  · split
    · exact h.respond _ _
    · exact h.respond _ _
  · exact h.respond _ _

theorem interim (h : During c a d s) (v : Service) : During c a d (s.interim v) := by
  unfold State.interim
  split
  · exact h.respond _ _
  · rename_i ho
    have stop : s.fence.stop = none := by simpa using ho
    have extended := h.service
      (fun v => { v with
        interims := v.interims + 1
        limit := some (s.startTimer s.config.timing.serviceLimit) })
      (fun _ => ⟨rfl, rfl, rfl, rfl, rfl, rfl⟩) (.inl stop)
    split
    · dsimp only
      split
      · exact extended.respond _ _
      · exact (extended.offerStatus .ansWait _ _).respond _ _
    · exact h.respond _ _

/-- Bytes that pass the judgement of R152 find their blocks. -/
theorem stagingRefusal_eq_none {v : Service} {n : Nat} (h : s.stagingRefusal v n = none) :
    stagingNeed v n ≤ s.memory.free := by
  unfold State.stagingRefusal at h
  split at h
  · exact absurd h nofun
  · split at h
    · exact absurd h nofun
    · omega

theorem part (h : During c a d s) {v : Service} (hv : s.delivery.service = some v) (bytes : List Byte) :
    During c a d (s.part v bytes) := by
  unfold State.part
  split
  · exact h.respond _ _
  · split
    · exact h.respond _ _
    · exact (h.stageBytes v bytes hv (stagingRefusal_eq_none ‹_›)).respond _ _

theorem operationSeen (h : During c a d s) (v : Service) : During c a d (s.operationSeen v) := by
  unfold State.operationSeen
  split
  · exact h.marker false nofun
  · exact h

theorem judgeOneShot (h : During c a d s) (v : Service) : During c a d (s.judgeOneShot v) := by
  unfold State.judgeOneShot
  split
  · split
    · exact h.decideEnd ..
    · exact h
  · exact h

theorem completeService (h : During c a d s) {v : Service} (hv : s.delivery.service = some v)
    (ho : s.fence.stop = none) {bytes : List Byte} (hb : stagingNeed v bytes.length ≤ s.memory.free)
    (hr : s.memory.replies.length < Config.replyAnswers) : During c a d (s.completeService v bytes) := by
  have answered := h.answer v bytes ⟨v.tester, v.tag, .ecu, v.cls, v.staged ++ bytes, 0⟩ hv ho hb hr
    ⟨rfl, rfl⟩
  unfold State.completeService State.emptySlot
  dsimp only
  split
  · exact (((answered.setOperation _ _).count _).operationSeen v).judgeOneShot v
  · exact (answered.count _).operationSeen v

theorem final (h : During c a d s) (hc : linkRow c = true) {v : Service} (hv : s.delivery.service = some v) (bytes : List Byte) :
    During c a d (s.final v bytes) := by
  unfold State.final
  split
  · exact (h.settleStop _ hv _ hc).respond _ _
  · rename_i ho
    split
    · exact h.respond _ _
    · rename_i hb
      split
      · exact ((h.leaveSlot hv ⟨rfl, rfl⟩ (.inl ho)).operationSeen v).respond _ _
      · split
        · exact h.respond _ _
        · rename_i hr
          exact (h.completeService hv ho (stagingRefusal_eq_none hb) (not_le.mp hr)).respond _ _

theorem stopDone (h : During c a d s) (hc : linkRow c = true) (b : Byte) : During c a d (s.stopDone b) := by
  unfold State.stopDone
  split
  · split
    · exact (h.settleStop _ ‹_› _ hc).respond _ _
    · exact h.respond _ _
  · exact h.respond _ _

theorem offerBreak (h : During c a d s) (r : Record) : During c a d (s.offerBreak r) := by
  unfold State.offerBreak
  dsimp only
  split
  · exact (h.offerProtocol .breakClaim _).markRecord _ _
      (fun _ => ⟨rfl, rfl, rfl, rfl, rfl, fun hr => hr⟩) fun _ => rfl
  · exact h.offerProtocol .breakClaim _

theorem reportConditions (h : During c a d s) {data : List Byte} (hc : c = .conditions data) :
    During c a d (s.reportConditions data) := by
  have fold (l : List Record) : ∀ s, During c a d s →
      During c a d (l.foldl (fun s r => s.offerBreak r) s) := by
    induction l with
    | nil => exact fun s h => h
    | cons r l ih => exact fun s h => ih _ (h.offerBreak r)
  exact (fold _ _ (h.conditions (conditionsOf data) ⟨data, hc⟩)).respond _ _

theorem handOldestNotice (h : During c a d s) : During c a d s.handNotice := by
  unfold State.handNotice
  split
  · exact h.respond _ _
  · exact (h.handNotice _ _ ‹_›).respond _ _

theorem slotLoad (h : During c a d s) {data : List Byte} (hc : c = .slotLoad data) :
    During c a d (s.slotLoad data) := by
  unfold State.slotLoad
  split
  · exact h.respond _ _
  · split
    · exact h.respond _ _
    · exact (h.slot _ _ ⟨data, .inl hc⟩).respond _ _

theorem slotClear (h : During c a d s) {data : List Byte} (hc : c = .slotClear data) :
    During c a d (s.slotClear data) := by
  unfold State.slotClear
  split
  · exact h.respond _ _
  · exact (h.slot _ _ ⟨data, .inr hc⟩).respond _ _

end

/-! ## Every command -/

section
variable {a : State}

/-- The state whose lines a command drives is one that the command passes through. -/
def Reaches (c : Instr) (a : State) : Prop := ∃ u, During c a .clear u ∧ exec c a = .next u.drive

theorem reaches_tester {c : Instr} (h : (testerRow c).isSome = true) : Reaches c a := by
  have queried {x : Selector} (hc : testerRow c = some (.query, selectorRow x))
      (answer : List Byte → State → List Byte) (effect : Tester → State → State)
      (he : ∀ t u, During c a .clear u → During c a .clear (effect t u)) :=
    testerPassage (a := a) hc (fun t p s => s.passQuery t p (answer p) (effect t))
      fun t p _ _ h => h.passQuery t p _ _ (he t)
  have plain {x : Selector} (hc : testerRow c = some (.query, selectorRow x))
      (answer : State → List Byte) := queried hc (fun _ => answer) (fun _ => id) fun _ _ h => h
  have claims {k : FrameKind} {act : Record → Sponsor → State → State}
      (hc : testerRow c = some (k, everyPayload)) (hact : ∀ r q u, During c a .clear u →
        During c a .clear (act r q u)) :=
    testerPassage (a := a) hc (fun t p s => s.claimFrame k t p act)
      fun t p _ _ h => h.claimFrame k t p act fun r q => hact r q _ h
  cases c with
  | admitPassage => exact ⟨_, testerPassage rfl _ fun t p may _ h => h.passAdmit may p, rfl⟩
  | leavePassage => exact ⟨_, testerPassage rfl _ fun t _ may _ h => h.endAdmission t .left may, rfl⟩
  | claimPassage => exact ⟨_, testerPassage rfl _ fun t p _ hp h => h.passClaim (by simpa using hp) t p, rfl⟩
  | renewPassage => exact ⟨_, claims rfl fun r q _ h => h.renewClaim r q, rfl⟩
  | releasePassage => exact ⟨_, claims rfl fun r q _ h => h.releaseClaim r q, rfl⟩
  | resumePassage => exact ⟨_, claims rfl fun r q _ h => h.resumeClaim r q, rfl⟩
  | continuePassage => exact ⟨_, claims rfl fun r q _ h => h.continueClaim r q, rfl⟩
  | abortReqPassage => exact ⟨_, testerPassage rfl _ fun t p _ _ h => h.passAbort rfl t (byteAt p 0), rfl⟩
  | fenceFramePassage => exact ⟨_, testerPassage rfl _ fun t _ _ _ h => h.passFence rfl t, rfl⟩
  | liftPassage => exact ⟨_, testerPassage rfl _ fun t _ _ _ h => h.passLift rfl t, rfl⟩
  | reqFirstPassage => exact ⟨_, testerPassage rfl _ fun t p _ _ h => h.passReqFirst rfl t p, rfl⟩
  | reqNextPassage => exact ⟨_, testerPassage rfl _ fun t p _ _ h => h.passReqNext rfl t p, rfl⟩
  | queryStatus => exact ⟨_, plain rfl State.statusAnswer, rfl⟩
  | queryIncidents => exact ⟨_, plain rfl State.incidentsAnswer, rfl⟩
  | queryView => exact ⟨_, plain rfl State.viewAnswer, rfl⟩
  | queryRoster => exact ⟨_, plain rfl State.rosterAnswer, rfl⟩
  | queryTrail => exact ⟨_, queried rfl (fun p s => s.trailAnswer (queryIndex p) (queryCount p))
      (fun _ => State.useFree) fun _ _ h => h.useFree, rfl⟩
  | queryThaw => exact ⟨_, queried rfl (fun _ => State.thawAnswer) (fun t s => s.thawTrail t)
      fun t _ h => h.thawTrail t, rfl⟩
  | queryCounters => exact ⟨_, queried rfl (fun _ => State.countersAnswer)
      (fun _ => State.clearCounters) fun _ _ h => h.clearCounters rfl, rfl⟩
  | queryCapture => exact ⟨_, queried rfl (fun _ => State.captureAnswer)
      (fun _ => State.clearCapture) fun _ _ h => h.clearCapture rfl, rfl⟩
  | _ => simp [testerRow] at h

theorem reaches_guard {c : Instr} (h : (guardRow c).isSome = true) : Reaches c a := by
  have verdict {o : VerdictOutcome} (hc : guardRow c = some (.verdict, verdictRow o))
      (apply : RxEntry → Record → State → State)
      (hap : ∀ e u r, During c a .clear u → u.record? r.id = some r →
        (r.sponsor = none → a.homedElsewhere r.id) → During c a .clear (apply e r u)) :=
    guardPassage (a := a) hc (fun d e s => s.passVerdict d e.frame.payload (apply e))
      fun d e _ _ _ hd => hd.passVerdict d _ _ fun u r hu hr hn => hap e u r hu hr hn
  have against {u : State} {r : Record} (hu : During c a .clear u) (hr : u.record? r.id = some r)
      (hn : r.sponsor = none → a.homedElsewhere r.id) (b : Byte) (i : Option ClaimId) :
      During c a .clear (u.settleAgainst r b i) :=
    hu.settleAgainst h (fun x hx => by rw [Option.some.inj (hr.symm.trans hx)]) hn b i
  cases c with
  | ownJoinPassage =>
    refine ⟨_, guardPassage rfl _ ?_, rfl⟩
    exact fun d e _ _ _ hd => hd.ownJoin h rfl d _
  | peerJoinPassage =>
    refine ⟨_, guardPassage rfl _ ?_, rfl⟩
    exact fun d e _ _ _ hd => hd.peerJoin h rfl d _
  | presentPassage =>
    refine ⟨_, guardPassage rfl _ ?_, rfl⟩
    exact fun d e _ _ _ hd => hd.passPresent h d e
  | ownRevokeDomainPassage =>
    refine ⟨_, guardPassage rfl _ ?_, rfl⟩
    exact fun d e _ _ _ hd => hd.ownRevoke h rfl d _
  | peerRevokeDomainPassage =>
    refine ⟨_, guardPassage rfl _ ?_, rfl⟩
    exact fun d e _ _ _ hd => hd.peerRevoke h rfl d _
  | announceNewPassage =>
    refine ⟨_, guardPassage rfl _ ?_, rfl⟩
    exact fun d e hp _ _ hd => hd.passAnnounce d _ _ _
      (fun x hi he hh => hd.sponsorNew h hp x hi he hh)
      fun x hi he hh hk => hd.voterNew h hp rfl d x hi he hh hk
  | announceResumePassage =>
    refine ⟨_, guardPassage rfl _ ?_, rfl⟩
    exact fun d e _ _ _ hd => hd.passAnnounce d _ _ _
      (fun x _ _ _ => hd.sponsorResume h x) fun x _ _ _ _ => hd.voterResume h rfl x
  | consentPassage =>
    refine ⟨_, guardPassage rfl _ ?_, rfl⟩
    exact fun d e _ _ _ hd => hd.passVote d _ _ fun r p =>
      hd.applyConsent d r p
  | objectPassage =>
    refine ⟨_, guardPassage rfl _ ?_, rfl⟩
    exact fun d e _ _ _ hd => hd.passVote d _ _ fun r _ =>
      hd.decideClaim r.id .refused (byteAt e.frame.payload 3)
  | verdictGranted =>
    refine ⟨_, verdict rfl (fun _ r s => if r.state = .pending then s.holdClaim r .claimBegin .granted
      else s) fun _ u r hu _ _ => ?_, rfl⟩
    split
    · exact hu.holdClaim h ..
    · exact hu
  | verdictResumed =>
    refine ⟨_, verdict rfl (fun _ r s => if r.state = .resuming then s.holdClaim r .claimResumed .resumed
      else s) fun _ u r hu _ _ => ?_, rfl⟩
    split
    · exact hu.holdClaim h ..
    · exact hu
  | verdictRefused =>
    exact ⟨_, verdict rfl (fun e r s => s.settleAgainst r (byteAt e.frame.payload 3) (some r.id))
      fun _ _ _ hu hr hn => against hu hr hn _ _, rfl⟩
  | verdictLapsed =>
    exact ⟨_, verdict rfl (fun _ r s => s.settleAgainst r Reason.lapsed (some r.id))
      fun _ _ _ hu hr hn => against hu hr hn _ _, rfl⟩
  | cancelPassage =>
    refine ⟨_, guardPassage rfl _ ?_, rfl⟩
    exact fun d e _ _ _ hd => hd.passCancel h rfl d e
  | breakPassage =>
    refine ⟨_, guardPassage rfl _ ?_, rfl⟩
    exact fun d e _ _ _ hd => hd.passBreak h rfl d e
  | endPassage =>
    refine ⟨_, guardPassage rfl _ ?_, rfl⟩
    exact fun d e _ _ _ hd => hd.passEnd h rfl d _
  | _ => simp [guardRow] at h

theorem reaches_expiry {c : Instr} (h : timerExpiry c = true) : Reaches c a := by
  cases c with
  | loaderRetryWaitExpiry => exact ⟨_, retryLoader rfl, rfl⟩
  | validityTimerExpiry t =>
    refine ⟨_, expire rfl _ (fun tm hp ht => ?_) _ fun s hs => hs.endAdmission t _ (.inl rfl), rfl⟩
    obtain ⟨k, hk, rfl⟩ := Option.map_eq_some_iff.mp ht
    exact State.runs_ticket hp hk (.inl rfl)
  | quietTimerExpiry t =>
    refine ⟨_, expire rfl _ (fun tm hp ht => ?_) _ fun s hs =>
      hs.endAdmission t _ (.inr (.inl rfl)), rfl⟩
    obtain ⟨k, hk, rfl⟩ := Option.map_eq_some_iff.mp ht
    exact State.runs_ticket hp hk (.inr rfl)
  | gapTimerExpiry t =>
    exact ⟨_, expire rfl _ (fun tm hp ht => State.runs_gap hp ht) _ fun s hs => hs.gapExpired t, rfl⟩
  | queueWaitExpiry t b =>
    refine ⟨_, expire rfl _ (fun tm hp ht => ?_) _ fun s hs => hs.removeEntries .., rfl⟩
    obtain ⟨e, he, rfl⟩ := Option.map_eq_some_iff.mp ht
    exact State.runs_wait hp (List.mem_of_find?_eq_some he)
  | serviceLimitExpiry =>
    refine ⟨_, expire rfl _ (fun tm hp ht => ?_) _ fun s hs => hs.serviceLate rfl, rfl⟩
    obtain ⟨v, hv, hl⟩ := Option.bind_eq_some_iff.mp ht
    exact State.runs_limit hp hv hl
  | stopLimitExpiry =>
    refine ⟨_, expire rfl _ (fun tm hp ht => ?_) _ fun s hs => hs.stopFailed rfl, rfl⟩
    obtain ⟨o, ho, rfl⟩ := Option.map_eq_some_iff.mp ht
    exact State.runs_stop hp ho
  | windowTimerExpiry id =>
    refine ⟨_, expire rfl _ (fun tm hp ht => ?_) _ fun s hs => hs.windowExpired id, rfl⟩
    obtain ⟨p, hq, hw⟩ := Option.bind_eq_some_iff.mp ht
    exact State.runs_sponsor hp hq (.inl hw)
  | holdTimerExpiry id =>
    refine ⟨_, expire rfl _ (fun tm hp ht => ?_) _ fun s hs => hs.holdExpired id, rfl⟩
    obtain ⟨r, hr, hh⟩ := Option.bind_eq_some_iff.mp ht
    exact State.runs_hold hp hr hh
  | leaseTimerExpiry id =>
    refine ⟨_, expire rfl _ (fun tm hp ht => ?_) _ fun s hs =>
      (hs.updateSponsor id _).decideEnd id _, rfl⟩
    obtain ⟨p, hq, hw⟩ := Option.bind_eq_some_iff.mp ht
    exact State.runs_sponsor hp hq (.inr hw)
  | _ => simp [timerExpiry] at h

theorem reaches_link {c : Instr} (h : linkRow c = true) : Reaches c a := by
  cases c with
  | take data => exact ⟨_, takeWithLength _ _ _ _ (start.takeRequest rfl), rfl⟩
  | read data => exact ⟨_, takeWithLength _ _ _ _ (start.readRequest data), rfl⟩
  | postInterim bytes => exact ⟨_, takePost _ _ fun v _ => start.interim v, rfl⟩
  | postPart bytes => exact ⟨_, takePost _ _ fun v hv => start.part hv bytes, rfl⟩
  | postFinal bytes => exact ⟨_, takePost _ _ fun v hv => start.final rfl hv bytes, rfl⟩
  | stopDone data => exact ⟨_, takeWithLength _ _ _ _ (start.stopDone rfl _), rfl⟩
  | conditions data => exact ⟨_, takeWithLength _ _ _ _ (start.reportConditions rfl), rfl⟩
  | notice data => exact ⟨_, takeWithLength _ _ _ _ start.handOldestNotice, rfl⟩
  | slotLoad data => exact ⟨_, takeWithLength _ _ _ _ (start.slotLoad rfl), rfl⟩
  | slotClear data => exact ⟨_, takeWithLength _ _ _ _ (start.slotClear rfl), rfl⟩
  | status data => exact ⟨_, takeWithLength _ _ _ _ (start.respond _ _), rfl⟩
  | _ => simp [linkRow] at h

/-- Every command's end is a state that the command passes through, its lines driven. -/
theorem reaches (c : Instr) (a : State) : Reaches c a := by
  by_cases tester : (testerRow c).isSome = true
  · exact reaches_tester tester
  by_cases guard : (guardRow c).isSome = true
  · exact reaches_guard guard
  by_cases expiry : timerExpiry c = true
  · exact reaches_expiry expiry
  by_cases link : linkRow c = true
  · exact reaches_link link
  cases c with
  | powerOn => exact ⟨_, execPowerOn rfl, rfl⟩
  | resetAsserted => exact ⟨_, assertReset, rfl⟩
  | lineReset => exact ⟨_, releaseReset rfl, rfl⟩
  | attemptFailed => exact ⟨_, start.failAttempt, rfl⟩
  | imageReadDone bytes => exact ⟨_, readImage rfl, rfl⟩
  | fenceLineAssertion => exact ⟨_, assertFenceLine rfl, rfl⟩
  | fenceLineRelease => exact ⟨_, releaseFenceLine rfl, rfl⟩
  | frameReceived f => exact ⟨_, start.receiveFrame f, rfl⟩
  | echo => exact ⟨_, start.completeOwn, rfl⟩
  | arbitrationStart => exact ⟨_, start.startArbitration, rfl⟩
  | arbitrationLost => exact ⟨_, start.loseArbitration, rfl⟩
  | transmitError => exact ⟨_, start.transmitError rfl, rfl⟩
  | receiveError => exact ⟨_, start.receiveError, rfl⟩
  | busReturn => exact ⟨_, start.busReturn, rfl⟩
  | waitingRevokeDomainJoins => exact ⟨_, start.joinWaitingRevoke, rfl⟩
  | replySegmenterOffer => exact ⟨_, start.offerNextSegment, rfl⟩
  | answerSegmentEcho => exact ⟨_, start.passAnswerEcho, rfl⟩
  | statusFrameEcho => exact ⟨_, start.passStatusEcho, rfl⟩
  | refreshOnlyPassage => exact ⟨_, passRefreshOnly rfl, rfl⟩
  | transactionDiscarded => exact ⟨_, start, rfl⟩
  | unknownCommandCode m =>
    refine ⟨_, ?_, rfl⟩
    split
    · exact takeCommand _ fun _ => start.respond _ _
    · exact start
  | _ => simp_all [testerRow, guardRow, timerExpiry, linkRow]

end

end During

/-- What a command gives is a state that the command passes through, its lines driven. -/
theorem exec_during {c : Instr} {a t : State} (h : exec c a = .next t) :
    ∃ u, During c a .clear u ∧ t = u.drive := by
  obtain ⟨u, hu, he⟩ := During.reaches c a
  exact ⟨u, hu, Host.Outcome.next.inj (h.symm.trans he)⟩

end Sys2Proof.Machine

/-!
PROOF. What no other command changes: each frame is an induction over the changes of a command, where the
changes that touch the field are those the statement names.
-/

namespace Sys2Proof.Machine

/-! ## The remaining operations as changes of blocks -/

namespace State
variable (s : State)

@[simp] theorem enterBusOff_eq : s.enterBusOff = (s.onBus fun b =>
    { b with mode := .busOff, rxFifo := [], txQueue := [], sending := none }).freeBlocks s.bus.blocks := rfl

@[simp] theorem dropEntries_eq (p : QueueEntry → Bool) : s.dropEntries p =
    (s.onDelivery fun d => { d with queue := d.queue.filter fun e => !p e }).freeBlocks
      ((s.delivery.queue.filter p).map fun e => blocksFor e.data.length).sum := rfl

@[simp] theorem reserve_eq (v : Reservation) : s.reserve v = s.onHold fun h =>
    { h with reservations := h.reservations ++ [v], nextSeq := s.nextFreeSeq + 1 } := rfl

@[simp] theorem stageAudit_eq (t : Tester) (tag : Byte) (data : List Byte) : s.stageAudit t tag data =
    (s.takeBlocks (blocksFor data.length)).stageAnswer ⟨t, tag, .audit, .audit, data, 0⟩ := rfl

@[simp] theorem stageBytes_eq (v : Service) (bytes : List Byte) : s.stageBytes v bytes =
    (s.takeBlocks (stagingNeed v bytes.length)).updateService fun v =>
      { v with staged := v.staged ++ bytes } := rfl

@[simp] theorem discardAnswers_eq (t : Tester) : s.discardAnswers t = s.onMemory fun m =>
    { m with
      free := m.free + ((m.replies.filter fun a => a.tester == t).map Answer.blocks).sum
      replies := m.replies.filter fun a => a.tester != t } := rfl

@[simp] theorem clearCounters_eq :
    s.clearCounters = s.onTrail fun x => { x with counters := Vector.replicate 25 0 } := rfl

@[simp] theorem clearCapture_eq : s.clearCapture = s.onTrail fun x => { x with capture := none } := rfl

@[simp] theorem writeIncident_eq (i : Incident) :
    s.writeIncident i = s.onFence fun f => f.writeIncident i := rfl

@[simp] theorem updateIncident_eq (f : Incident → Incident) :
    s.updateIncident f = s.onFence fun x => { x with current := x.current.map f } := rfl

@[simp] theorem enableAndJoin_eq (k : StartKind) : s.enableAndJoin k =
    ((s.onBus fun _ => { Backbone.start with mode := .enabled }).joinQueue
      (guardFrame s.config.ownDomain .join (joinPayload s.config.digest s.config.ownDomain k)) 0
    ).onMembership fun m => { m with state := .joining, outstanding := [⟨.start, .queued⟩] } := rfl

@[simp] theorem useFree_keeps :
    s.useFree.pending = s.pending ∧ s.useFree.guardTime = s.guardTime ∧ s.useFree.phase = s.phase ∧
    s.useFree.startKind = s.startKind ∧ s.useFree.pins = s.pins ∧ s.useFree.loader = s.loader ∧
    s.useFree.config = s.config ∧ s.useFree.bus = s.bus ∧ s.useFree.membership = s.membership ∧
    s.useFree.admissions = s.admissions ∧ s.useFree.slots = s.slots ∧ s.useFree.hold = s.hold ∧
    s.useFree.memory = s.memory ∧ s.useFree.delivery = s.delivery ∧ s.useFree.fence = s.fence ∧
    s.useFree.link = s.link ∧ s.useFree.trail = s.trail := by simp [State.useFree]

end State

namespace During

section
variable {c : Instr} {a s : State} {d : Debt}

theorem pending_eq (h : During c a d s) : s.pending = a.pending := by
  induction h with
  | start => rfl
  | powerOn _ _ ih | lineReset _ _ ih => exact ih
  | time => simp
  | settle => rfl
  | _ => rename_i ih; simpa using ih

/-! ## The configuration and what the ECU sets -/

theorem startKind_eq (h : During c a d s) (hp : c ≠ .powerOn) (hl : c ≠ .lineReset) :
    s.startKind = a.startKind := by
  induction h with
  | start => rfl
  | powerOn _ hc => exact absurd hc (by simp [hp, hl])
  | lineReset _ hc => exact absurd hc hl
  | time => simp
  | settle => rfl
  | _ => rename_i ih; simpa using ih

theorem config_eq (h : During c a d s) (hp : c ≠ .powerOn) (hl : c ≠ .lineReset)
    (hi : ∀ bytes, c ≠ .imageReadDone bytes) : s.config = a.config := by
  induction h with
  | start => rfl
  | powerOn _ hc => exact absurd hc (by simp [hp, hl])
  | lineReset _ hc => exact absurd hc hl
  | time => simp
  | settle _ hc => exact absurd hc (hi _)
  | _ => rename_i ih; simpa using ih

theorem guardTime_eq (h : During c a d s) (hp : c ≠ .powerOn) (hl : c ≠ .lineReset)
    (ht : timerExpiry c = false) : s.guardTime = a.guardTime := by
  induction h with
  | start => rfl
  | powerOn _ hc => exact absurd hc (by simp [hp, hl])
  | lineReset _ hc => exact absurd hc hl
  | time _ hc => exact absurd hc (by simp [ht])
  | settle => rfl
  | _ => rename_i ih; simpa using ih

theorem slots_eq (h : During c a d s) (hp : c ≠ .powerOn) (hl : c ≠ .lineReset)
    (hs : ∀ data, c ≠ .slotLoad data ∧ c ≠ .slotClear data) : s.slots = a.slots := by
  induction h with
  | start => rfl
  | powerOn _ hc => exact absurd hc (by simp [hp, hl])
  | lineReset _ hc => exact absurd hc hl
  | time => simp
  | settle => rfl
  | slot _ _ _ hc =>
    obtain ⟨data, hc⟩ := hc
    exact absurd hc (by simp [hs data])
  | _ => rename_i ih; simpa using ih

theorem conditions_eq (h : During c a d s) (hp : c ≠ .powerOn) (hl : c ≠ .lineReset)
    (hs : ∀ data, c ≠ .conditions data) : s.link.conditions = a.link.conditions := by
  have notices (s : State) (n : Notice) : (s.queueNotice n).link.conditions = s.link.conditions := by
    unfold State.queueNotice
    simp only [State.onLink_link]
    split <;> rfl
  induction h with
  | start => rfl
  | powerOn _ hc => exact absurd hc (by simp [hp, hl])
  | lineReset _ hc => exact absurd hc hl
  | time => simp
  | settle => rfl
  | conditions _ _ hc =>
    obtain ⟨data, hc⟩ := hc
    exact absurd hc (hs data)
  | notice _ n _ ih => exact (notices _ n).trans ih
  | issueStop _ v cause _ _ _ _ _ ih =>
    refine Eq.trans ?_ ih
    simp only [State.issueStopFor, State.post_keeps, notices]
    simp [State.writeIncident]
  | _ => rename_i ih; simpa [State.withdrawStopNotice, State.leaveStopNotice] using ih

/-! ## Admissions -/

theorem admission_eq (h : During c a d s) (hp : c ≠ .powerOn) (hl : c ≠ .lineReset) {u : Tester}
    (hu : ¬ a.mayAdmit c u) : s.admissions[u] = a.admissions[u] := by
  induction h with
  | start => rfl
  | powerOn _ hc => exact absurd hc (by simp [hp, hl])
  | lineReset _ hc => exact absurd hc hl
  | time => simp
  | settle => rfl
  | admission _ t x hc ih =>
    have other : t.val ≠ u.val := fun e => hu (Fin.ext e ▸ hc)
    simpa [State.setAdmission, other] using ih
  | _ => rename_i ih; simpa using ih

/-- A link command admits no tester. -/
theorem not_mayAdmit_of_link (hc : linkRow c = true) (u : Tester) : ¬ a.mayAdmit c u := by
  cases c <;> simp_all [linkRow, State.mayAdmit, testerRow]

theorem admissions_eq_of_link (h : During c a d s) (hc : linkRow c = true) :
    s.admissions = a.admissions := by
  ext i hi : 1
  refine h.admission_eq (u := ⟨i, hi⟩) ?_ ?_ (not_mayAdmit_of_link hc _) <;>
    (rintro rfl; exact absurd hc nofun)

/-! ## The roster and the fence under a link command (R177) -/

theorem not_link_of_fenceCommand (hc : fenceCommand c) : linkRow c = false := by
  rcases hc with rfl | rfl | rfl | ⟨_, rfl⟩ <;> rfl

theorem offers_roster (s : State) (r : ClearReason) :
    (s.offerRevoke r).membership.roster = s.membership.roster := by
  unfold State.offerRevoke State.addOutstanding
  split
  · rfl
  · split
    · rfl
    · split <;> rfl

theorem roster_eq_of_link (h : During c a d s) (hc : linkRow c = true) :
    s.membership.roster = a.membership.roster := by
  induction h with
  | start => rfl
  | powerOn _ hp =>
    rcases hp with rfl | ⟨rfl, -⟩
    · exact absurd hc nofun
    · exact absurd hc nofun
  | lineReset _ hp => exact absurd hc (by rw [hp]; nofun)
  | time => simp
  | settle => rfl
  | membership _ f hf ih => exact ((hf.resolve_right (by simp [hc])) _).trans ih
  | _ => rename_i ih; simpa using ih

theorem fence_eq_of_link (h : During c a d s) (hc : linkRow c = true) :
    s.fence.fenced = a.fence.fenced ∧ s.fence.causes = a.fence.causes := by
  have write (f : Fence) (i : Incident) :
      (f.writeIncident i).fenced = f.fenced ∧ (f.writeIncident i).causes = f.causes := by
    unfold Fence.writeIncident
    split
    · split <;> exact ⟨rfl, rfl⟩
    · exact ⟨rfl, rfl⟩
  induction h with
  | start => exact ⟨rfl, rfl⟩
  | powerOn _ hp =>
    rcases hp with rfl | ⟨rfl, -⟩
    · exact absurd hc nofun
    · exact absurd hc nofun
  | lineReset _ hp => exact absurd hc (by rw [hp]; nofun)
  | time => simp
  | settle => exact ⟨rfl, rfl⟩
  | startFencing _ _ hp => exact absurd hc (by simp [not_link_of_fenceCommand hp])
  | writeIncident _ _ hp => exact absurd hc (by simp [not_link_of_fenceCommand hp])
  | causes _ _ hp => exact absurd hc (by simp [hp])
  | lift _ hp => exact absurd hc (by rw [hp]; nofun)
  | issueStop _ _ _ hp =>
    exact absurd hp (by cases c <;> simp_all [linkRow, asksStop, guardRow])
  | _ => rename_i ih; simpa using ih

end

end During

/-- Settles O3: every command ends by driving the lines of some state, and no change touches the queue of
commands. -/
theorem everyCommandAnswers : Obligations.EveryCommandAnswers := by
  unfold Obligations.EveryCommandAnswers
  intro c s
  obtain ⟨u, hu, he⟩ := During.reaches c s
  exact ⟨_, he, (u.drive_keeps.1).trans hu.pending_eq⟩

/-- Settles O14, field by field. -/
theorem configurationAndEcuFrame : Obligations.ConfigurationAndEcuFrame := by
  unfold Obligations.ConfigurationAndEcuFrame
  refine ⟨fun c s t he hp hl => ?_, fun c s t he hp hl => ?_⟩
  · obtain ⟨u, hu, rfl⟩ := exec_during he
    simp only [State.drive_keeps]
    exact ⟨hu.startKind_eq hp hl, hu.config_eq hp hl, hu.guardTime_eq hp hl⟩
  · obtain ⟨u, hu, rfl⟩ := exec_during he
    simp only [State.drive_keeps]
    refine ⟨hu.slots_eq hp hl, hu.conditions_eq hp hl, fun hc => ?_⟩
    obtain ⟨hf, hca⟩ := hu.fence_eq_of_link hc
    exact ⟨hu.admissions_eq_of_link hc, hu.roster_eq_of_link hc, hf, hca,
      hu.config_eq hp hl (by rintro _ rfl; exact absurd hc nofun)⟩

/-- Settles O15: only the changes that R45 names write an entry. -/
theorem admissionsFrame : Obligations.AdmissionsFrame := by
  unfold Obligations.AdmissionsFrame
  intro c s t u he hp hl hne
  obtain ⟨v, hv, rfl⟩ := exec_during he
  by_contra hu
  exact hne (by simpa using hv.admission_eq hp hl hu)

end Sys2Proof.Machine

/-!
PROOF. What no other command changes, continued: the replicated fields (R79), the fence unit (R167, R168,
R173), the delivery queue's order (R144, R148), the trail unit (R191, R192) and CONSENT while FENCED (R171).
-/

namespace Sys2Proof.Machine

/-! ## Replicated fields (R75, R79) -/

theorem State.updateRecord_replicated (s : State) (id : ClaimId) (f : Record → Record)
    (hf : ∀ r, (f r).replicated = r.replicated) :
    (s.updateRecord id f).hold.view.map Record.replicated = s.hold.view.map Record.replicated := by
  simp only [State.updateRecord, State.onHold, Hold.updateRecord, List.map_map]
  refine List.map_congr_left fun r _ => ?_
  simp only [Function.comp]
  split
  · exact hf r
  · rfl

theorem Hold.busLoss_replicated (x : Hold) :
    x.busLoss.view.map Record.replicated = x.view.map Record.replicated := by
  simp only [Hold.busLoss, List.map_map]
  exact List.map_congr_left fun _ _ => rfl

/-- Issuing a stop order changes the view in one sponsor part. -/
theorem State.issueStopFor_view (s : State) (v : Service) (cause : StopCause) :
    (s.issueStopFor v cause).hold.view = (s.setOperation v.claim .stopping).hold.view := by
  simp [State.issueStopFor, State.setOperation, State.updateSponsor, State.updateRecord]

namespace During

section
variable {c : Instr} {a s : State} {d : Debt}

theorem replicated_eq (h : During c a d s) (hp : c ≠ .powerOn) (hl : c ≠ .lineReset)
    (hg : guardRow c = none) :
    s.hold.view.map Record.replicated = a.hold.view.map Record.replicated := by
  induction h with
  | start => rfl
  | powerOn _ hc => exact absurd hc (by simp [hp, hl])
  | lineReset _ hc => exact absurd hc hl
  | time => simp
  | settle => rfl
  | update _ id f _ hr _ ih =>
    exact (State.updateRecord_replicated _ id f (hr.resolve_right (by simp [hg]))).trans ih
  | suspend _ _ hc | remove _ _ hc | removeElsewhere _ _ hc | create _ _ hc | createReserved _ _ _ hc =>
    exact absurd hc (by simp [hg])
  | release _ id ih => simpa [State.releaseReservation] using ih
  | holdBusLoss _ ih => exact (Hold.busLoss_replicated _).trans ih
  | issueStop _ v cause _ _ _ _ _ ih =>
    rw [State.issueStopFor_view, State.setOperation, State.updateSponsor_replicated]
    exact ih
  | _ => rename_i ih; simpa using ih

/-! ## The fence unit -/

theorem fenced_eq (h : During c a d s) (hp : c ≠ .powerOn) (hl : c ≠ .lineReset)
    (hf : ¬ fenceCommand c) (hc : c ≠ .liftPassage) : s.fence.fenced = a.fence.fenced := by
  have write (f : Fence) (i : Incident) : (f.writeIncident i).fenced = f.fenced := by
    unfold Fence.writeIncident
    split
    · split <;> rfl
    · rfl
  induction h with
  | start => rfl
  | powerOn _ hc => exact absurd hc (by simp [hp, hl])
  | lineReset _ hc => exact absurd hc hl
  | time => simp
  | settle => rfl
  | startFencing _ _ hc => exact absurd hc hf
  | lift _ hx => exact absurd hx hc
  | issueStop _ _ _ _ _ _ _ _ ih => simpa [State.issueStopFor, write] using ih
  | writeIncident _ _ _ ih => simpa [write] using ih
  | _ => rename_i ih; simpa using ih

/-- Only TAKE sets the marker (R173). -/
theorem marker_set (h : During c a d s) (hp : c ≠ .powerOn) (hl : c ≠ .lineReset)
    (hm : s.fence.marker = true) : a.fence.marker = true ∨ ∃ data, c = .take data := by
  have write (f : Fence) (i : Incident) : (f.writeIncident i).marker = f.marker := by
    unfold Fence.writeIncident
    split
    · split <;> rfl
    · rfl
  induction h with
  | start => exact .inl hm
  | powerOn _ hc => exact absurd hc (by simp [hp, hl])
  | lineReset _ hc => exact absurd hc hl
  | time => exact .inl (by simpa using hm)
  | settle => exact .inl hm
  | marker _ b hc => exact .inr (hc hm)
  | issueStop _ _ _ _ _ _ _ _ ih => exact ih (by simpa [State.issueStopFor, write] using hm)
  | writeIncident _ _ _ ih => exact ih (by simpa [write] using hm)
  | _ => rename_i ih; exact ih (by simpa using hm)

end

end During

/-- Is the incident in CURRENT an OPEN one (R167)? -/
def Fence.opened (f : Fence) : Prop := ∃ i, f.current = some i ∧ i.status = .opened

/-- A change that reopens no incident leaves no more of them OPEN. -/
theorem Fence.opened_of_map {x : Fence} {g : Incident → Incident} (hg : Incident.Settles g)
    (h : ∃ i, x.current.map g = some i ∧ i.status = .opened) : x.opened := by
  obtain ⟨i, hi, ho⟩ := h
  obtain ⟨j, hj, rfl⟩ := Option.map_eq_some_iff.mp hi
  exact ⟨j, hj, hg j ho⟩

/-- Writing an incident overtakes an OPEN one only (R167). -/
theorem Fence.writeIncident_effect (x : Fence) (i : Incident) :
    (x.writeIncident i).current = some i ∧ (x.writeIncident i).stop = x.stop ∧
      (¬ x.opened → (x.writeIncident i).prior = x.prior) := by
  unfold Fence.writeIncident
  split
  · rename_i k hk
    split
    · rename_i ho
      exact ⟨rfl, rfl, fun hn => absurd ⟨k, hk, ho⟩ hn⟩
    · exact ⟨rfl, rfl, fun _ => rfl⟩
  · exact ⟨rfl, rfl, fun _ => rfl⟩

/-- Where no fence cause is taken, PRIOR changes only over an incident OPEN before; and an incident that
such a command opens comes with an order that then stands, so it opens no second one. -/
theorem During.prior_eq {c : Instr} {a s : State} {d : Debt} (h : During c a d s) (hp : c ≠ .powerOn)
    (hl : c ≠ .lineReset) (hf : ¬ fenceCommand c) (ha : ¬ a.fence.opened) :
    s.fence.prior = a.fence.prior ∧
      (linkRow c = false → s.fence.opened → s.fence.stop.isSome = true) := by
  induction h with
  | start => exact ⟨rfl, fun _ ho => absurd ho ha⟩
  | powerOn _ hc => exact absurd hc (by simp [hp, hl])
  | lineReset _ hc => exact absurd hc hl
  | time => simp [ha]
  | settle => exact ⟨rfl, fun _ ho => absurd ho ha⟩
  | incident _ f hs ih => exact ⟨ih.1, fun hr ho => ih.2 hr (Fence.opened_of_map hs ho)⟩
  | @issueStop d s _ v cause hc _ _ _ hn ih =>
    have link : linkRow c = false := by cases c <;> simp_all [linkRow, asksStop, guardRow]
    have closed : ¬ s.fence.opened := fun ho => by simpa [hn] using ih.2 link ho
    obtain ⟨-, stop, prior⟩ := Fence.writeIncident_effect
      { s.fence with stop := some (s.stopOrderFor v cause) }
      ⟨.stop cause, some v.claim, some v.tester, some v.tag, some v.cls, s.guardTime, .opened, none⟩
    have order : (State.stopOrderFor (s.updateService fun v => { v with limit := none }) v cause) =
        s.stopOrderFor v cause := rfl
    simp only [State.issueStopFor, State.post_keeps, State.queueNotice_keeps, State.writeIncident,
      State.onFence_fence, State.setOperation_keeps, State.updateService_keeps, order]
    exact ⟨(prior closed).trans ih.1, fun _ _ => by simp [stop]⟩
  | writeIncident _ _ hc | startFencing _ _ hc | abandonOrder _ _ _ hc => exact absurd hc hf
  | settleOrder _ hc ih => exact ⟨ih.1, fun hr => absurd hc (by simp [hr])⟩
  | orphanOrder _ t ih => exact ⟨ih.1, fun hr ho => by simpa using ih.2 hr ho⟩
  | causes _ _ _ _ ih | lift _ _ ih | marker _ _ _ ih => exact ⟨ih.1, fun hr ho => ih.2 hr ho⟩
  | _ => rename_i ih; simpa [Fence.opened] using ih

/-- Taking a fence cause writes one incident (R167, R170, R171). -/
theorem State.takeFenceCause_prior (s : State) (cause : FenceCause) (i : Incident)
    (hs : ¬ s.fence.opened) : (s.takeFenceCause cause i).fence.prior = s.fence.prior := by
  have abandon (u : State) : u.abandonStop.fence.prior = u.fence.prior ∧
      (u.abandonStop.fence.opened → u.fence.opened) := by
    unfold State.abandonStop
    split
    · have closed := Fence.opened_of_map (x := u.fence)
        (g := fun i => { i with outcome := i.outcome.orElse fun _ => some .abandoned }) fun _ hi => hi
      dsimp only
      have kept : ∀ u' : State, u'.fence = { u.fence with
          stop := none
          current := u.fence.current.map fun i =>
            { i with outcome := i.outcome.orElse fun _ => some .abandoned } } →
          u'.fence.prior = u.fence.prior ∧ (u'.fence.opened → u.fence.opened) := by
        intro u' hu
        rw [hu]
        exact ⟨rfl, closed⟩
      split <;> exact kept _ (by simp)
    · exact ⟨rfl, id⟩
  unfold State.takeFenceCause
  split
  · obtain ⟨prior, opened⟩ := abandon
      (s.onFence fun f => { f with fenced := true, causes := f.causes ||| cause.bit })
    have write := (Fence.writeIncident_effect
      (s.onFence fun f => { f with fenced := true, causes := f.causes ||| cause.bit }).abandonStop.fence
      i).2.2 fun ho => hs (opened ho)
    simpa [State.enterFenced] using write.trans prior
  · split
    · rfl
    · have write := (Fence.writeIncident_effect { s.fence with causes := s.fence.causes ||| cause.bit }
        i).2.2 hs
      simpa using write

/-- A command that may take a fence cause takes one at most. -/
theorem prior_eq_of_fenceCommand {c : Instr} {s t : State} (hc : fenceCommand c)
    (hi : ∀ bytes, c ≠ .imageReadDone bytes) (he : exec c s = .next t) (hs : ¬ s.fence.opened) :
    t.fence.prior = s.fence.prior := by
  rcases hc with rfl | rfl | rfl | ⟨bytes, rfl⟩
  · obtain rfl : s.assertFenceLine.drive = t := Host.Outcome.next.inj he
    simp only [State.drive_keeps]
    unfold State.assertFenceLine
    split
    · rfl
    · dsimp only
      split
      · exact State.takeFenceCause_prior _ _ _ hs
      · rfl
  · obtain rfl : (s.testerPassage .fence everyPayload fun t _ s => s.passFence t).drive = t :=
      Host.Outcome.next.inj he
    simp only [State.drive_keeps]
    rcases s.testerPassage_cases .fence everyPayload fun t _ s => s.passFence t with
      h | ⟨u, h⟩ | ⟨u, e, rest, -, -, -, -, -, h⟩
    · rw [h]
    · simp [h]
    · rw [h]
      simp only [State.passFence, State.fenceResult, State.offerResult_keeps]
      split
      · rw [State.takeFenceCause_prior _ _ _ (by simpa using hs)]
        simp
      · simp
  · obtain rfl : (s.expire (s.fence.stop.map fun o => o.limit) fun s => s.stopFailed).drive = t :=
      Host.Outcome.next.inj he
    simp only [State.drive_keeps]
    rcases s.expire_cases (s.fence.stop.map fun o => o.limit) fun s => s.stopFailed with
      h | ⟨tm, -, -, -, h⟩
    · rw [h]
    · rw [h]
      unfold State.stopFailed
      split
      · simp
      · have closed := Fence.opened_of_map (x := s.fence)
          (g := fun i => { i with outcome := some .timedOut }) fun _ hi => hi
        rw [State.takeFenceCause_prior _ _ _ fun ho => hs (closed (by simpa [Fence.opened] using ho))]
        simp
  · exact absurd rfl (hi bytes)

/-! ## The trail unit (R191, R192) -/

theorem Trail.Grows.trans {x y z : Trail} (h : Trail.Grows x y) (h' : Trail.Grows y z) :
    Trail.Grows x z :=
  ⟨fun k => (h.counters k).trans (h'.counters k), fun w hw => h'.capture w (h.capture w hw)⟩

namespace During

section
variable {c : Instr} {a s : State} {d : Debt}

theorem counters_le (h : During c a d s) (hp : c ≠ .powerOn)
    (hl : c = .lineReset → a.startAfterReset ≠ .powerOn) (hq : c ≠ .queryCounters) (k : Fin 25) :
    a.trail.counters[k].toNat ≤ s.trail.counters[k].toNat := by
  induction h with
  | start => exact le_rfl
  | powerOn _ hc =>
    rcases hc with hc | ⟨hc, hr⟩
    · exact absurd hc hp
    · exact absurd hr (hl hc)
  | lineReset _ _ ih => exact ih
  | time => simp
  | settle => exact le_rfl
  | trail _ f hf ih => exact ih.trans ((hf _).counters k)
  | clearCounters _ hc => exact absurd hc hq
  | issueStop _ v cause _ _ _ _ _ ih =>
    refine ih.trans ?_
    simpa [State.issueStopFor, State.post] using (Trail.grows_post _ _ _).counters k
  | _ => rename_i ih; simpa using ih

theorem capture_stays (h : During c a d s) (hp : c ≠ .powerOn)
    (hl : c = .lineReset → a.startAfterReset ≠ .powerOn) (hq : c ≠ .queryCapture) {x : Capture}
    (hx : a.trail.capture = some x) : s.trail.capture = some x := by
  induction h with
  | start => exact hx
  | powerOn _ hc =>
    rcases hc with hc | ⟨hc, hr⟩
    · exact absurd hc hp
    · exact absurd hr (hl hc)
  | lineReset _ _ ih => exact ih
  | time => simpa using hx
  | settle => exact hx
  | trail _ f hf ih => exact (hf _).capture x ih
  | clearCapture _ hc => exact absurd hc hq
  | issueStop _ v cause _ _ _ _ _ ih =>
    simpa [State.issueStopFor, State.post] using (Trail.grows_post _ _ _).capture x ih
  | _ => rename_i ih; simpa using ih

end

end During

/-- Settles O16: outside the passages of guard frames every change of the view is local. -/
theorem replicatedFrame : Obligations.ReplicatedFrame := by
  unfold Obligations.ReplicatedFrame
  intro c s t he hp hl hg
  obtain ⟨u, hu, rfl⟩ := exec_during he
  simpa using hu.replicated_eq hp hl hg

/-- Settles O17: a command that takes no fence cause and one that does are judged apart for PRIOR. -/
theorem fenceFrame : Obligations.FenceFrame := by
  unfold Obligations.FenceFrame
  intro c s t he hp hl
  obtain ⟨u, hu, rfl⟩ := exec_during he
  refine ⟨fun hne => ?_, fun hi hne => ?_, fun hm => hu.marker_set hp hl (by simpa using hm)⟩
  · by_contra hn
    simp only [not_or] at hn
    obtain ⟨h1, h2, h3, h4, h5⟩ := hn
    have hf : ¬ fenceCommand c := by
      rintro (h | h | h | h)
      exacts [h1 h, h2 h, h4 h, h5 h]
    exact hne (by simpa using hu.fenced_eq hp hl hf h3)
  · by_contra hn
    by_cases hf : fenceCommand c
    · exact hne (prior_eq_of_fenceCommand hf hi he hn)
    · exact hne (by simpa using (hu.prior_eq hp hl hf hn).1)

/-- Settles O19: every change of the trail unit grows it but the two clearings. -/
theorem trailFrame : Obligations.TrailFrame := by
  unfold Obligations.TrailFrame
  intro c s t he hp hl
  obtain ⟨u, hu, rfl⟩ := exec_during he
  simp only [State.drive_keeps]
  exact ⟨fun hq k => hu.counters_le hp hl hq k, fun hq x hx => hu.capture_stays hp hl hq hx⟩

end Sys2Proof.Machine

/-!
PROOF. What no other command changes, ended: the order of the delivery queue (R144, R148), CONSENT while
FENCED (R171), and guard time, which no step takes past the end of a running timer (R1).
-/

namespace Sys2Proof.Machine

/-! ## The delivery queue (R144, R148) -/

namespace During

section
variable {c : Instr} {a s : State} {d : Debt}

/-- Only a request segment adds an entry (R144). -/
theorem queue_sublist (h : During c a d s) (hf : c ≠ .reqFirstPassage) (hn : c ≠ .reqNextPassage) :
    s.delivery.queue.Sublist a.delivery.queue := by
  induction h with
  | start => exact .refl _
  | powerOn => exact List.nil_sublist _
  | lineReset => exact List.nil_sublist _
  | time => simp
  | settle => exact .refl _
  | enqueue _ _ _ _ hc => exact absurd hc (by simp [hf, hn])
  | dropEntries _ _ ih | dropClaim _ ih => exact List.filter_sublist.trans ih
  | endFencing _ _ _ ih => exact List.filter_sublist.trans ih
  | handOver _ _ _ _ _ _ _ _ _ ih => exact List.erase_sublist.trans ih
  | issueStop _ v cause _ _ _ _ _ ih => simpa [State.issueStopFor, State.updateService] using ih
  | _ => rename_i ih; simpa [State.updateService] using ih

/-- Only TAKE fills an empty service slot (R148). -/
theorem service_none (h : During c a d s) (hc : ∀ data, c ≠ .take data)
    (hv : a.delivery.service = none) : s.delivery.service = none := by
  induction h with
  | start => exact hv
  | powerOn => rfl
  | lineReset => rfl
  | time => simpa using hv
  | settle => exact hv
  | handOver _ _ _ hc' =>
    obtain ⟨data, hd⟩ := hc'
    exact absurd hd (hc data)
  | issueStop _ _ _ _ _ hs _ _ ih => exact absurd hs (by simp [ih])
  | stageBytes _ _ _ hs _ ih => exact absurd hs (by simp [ih])
  | leave | answer => simp
  | service _ _ _ _ ih => simp [State.updateService, ih]
  | _ => rename_i ih; simpa using ih

end

end During

/-- A queue as it was, or with one entry more at its tail. -/
def grownByOne (q r : List QueueEntry) : Prop := r = q ∨ ∃ e, r = q ++ [e]

section
variable (s : State) (t : Tester) (x : Assembly) (k : FrameKind)

theorem State.refuseAssembly_queue (b : Byte) (l : Lane) :
    (s.refuseAssembly t x k b l).delivery.queue = s.delivery.queue := by
  simp [State.refuseAssembly]

theorem State.enqueue_queue : grownByOne s.delivery.queue (s.enqueue t x k).delivery.queue := by
  unfold State.enqueue
  split
  · exact .inl (s.refuseAssembly_queue ..)
  · exact .inr ⟨s.newEntry t x, by simp⟩

theorem State.completeRequest_queue :
    grownByOne s.delivery.queue (s.completeRequest t x k).delivery.queue := by
  unfold State.completeRequest
  split
  · exact s.enqueue_queue t x k
  · split
    · exact s.enqueue_queue t x k
    · unfold State.answerStanding
      split
      · exact .inl (s.refuseAssembly_queue ..)
      · exact .inl (by simp)

theorem State.passReqFirst_queue (p : List Byte) :
    grownByOne s.delivery.queue (s.passReqFirst t p).delivery.queue := by
  have lane : (s.endDiscarding t).delivery = s.delivery := by
    unfold State.endDiscarding
    split <;> simp
  unfold State.passReqFirst
  dsimp only
  split
  · refine .inl ?_
    unfold State.refuseFirst State.laneAfterRefusal
    dsimp only
    split
    · simp [lane]
    · split <;> simp [lane]
  · unfold State.beginAssembly
    dsimp only
    split
    · simpa [lane] using State.completeRequest_queue
        (((s.endDiscarding t).takeBlocks _).setLane t (.assembling _)) t _ .reqFirst
    · exact .inl (by simp [lane])

theorem State.passReqNext_queue (p : List Byte) :
    grownByOne s.delivery.queue (s.passReqNext t p).delivery.queue := by
  unfold State.passReqNext
  split
  · exact .inl rfl
  · rename_i y _
    split
    · unfold State.assembleSegment
      split
      · dsimp only
        split
        · simpa using State.completeRequest_queue
            (s.setLane t (.assembling (s.storeSegment y p))) t (s.storeSegment y p) .reqNext
        · exact .inl (by simp)
      · exact .inl (s.refuseAssembly_queue ..)
    · exact .inl rfl
  · split
    · split <;> exact .inl (by simp)
    · exact .inl rfl

end

/-- A request segment adds one entry at most (R144). -/
theorem queue_grownByOne {c : Instr} {s t : State} (hc : c = .reqFirstPassage ∨ c = .reqNextPassage)
    (he : exec c s = .next t) : grownByOne s.delivery.queue t.delivery.queue := by
  have passage (k : FrameKind) (act : Tester → List Byte → State → State)
      (hact : ∀ u t p, grownByOne u.delivery.queue (act t p u).delivery.queue) :
      grownByOne s.delivery.queue (s.testerPassage k everyPayload act).delivery.queue := by
    rcases s.testerPassage_cases k everyPayload act with h | ⟨u, h⟩ | ⟨u, e, rest, -, -, -, -, -, h⟩
    · exact .inl (by rw [h])
    · exact .inl (by simp [h])
    · rw [h]
      simpa using hact (s.afterTesterHead u) u e.frame.payload
  rcases hc with rfl | rfl
  · obtain rfl : (s.testerPassage .reqFirst everyPayload fun t p s => s.passReqFirst t p).drive = t :=
      Host.Outcome.next.inj he
    simpa using passage .reqFirst _ fun u t p => u.passReqFirst_queue t p
  · obtain rfl : (s.testerPassage .reqNext everyPayload fun t p s => s.passReqNext t p).drive = t :=
      Host.Outcome.next.inj he
    simpa using passage .reqNext _ fun u t p => u.passReqNext_queue t p

/-- Settles O18: a request segment is judged by what its completion does; every other command takes a
sublist of the queue. -/
theorem deliveryFrame : Obligations.DeliveryFrame := by
  unfold Obligations.DeliveryFrame
  intro c s t he
  obtain ⟨u, hu, rfl⟩ := exec_during he
  refine ⟨?_, fun hv ht => ?_⟩
  · by_cases hc : c = .reqFirstPassage ∨ c = .reqNextPassage
    · rcases queue_grownByOne hc he with hq | ⟨e, hq⟩
      · exact ⟨_, [], by rw [hq]; simp, .refl _, by simp, nofun⟩
      · exact ⟨_, [e], hq, .refl _, le_rfl, fun _ => hc⟩
    · simp only [not_or] at hc
      exact ⟨_, [], by simp, hu.queue_sublist hc.1 hc.2, by simp, nofun⟩
  · by_contra hn
    exact ht (by simpa using hu.service_none (fun data hd => hn ⟨data, hd⟩) hv)

/-! ## CONSENT (R171) -/

/-- Is an entry of the transmit queue a CONSENT? -/
def TxEntry.consents (e : TxEntry) : Bool := e.frame.kind == FrameKind.consent.code

theorem FrameKind.code_inj {k l : FrameKind} (h : k.code = l.code) : k = l := by
  have := congrArg FrameKind.ofCode h
  simpa using this

/-- An own frame of another kind is no CONSENT. -/
theorem State.countP_joinQueue (s : State) (f : Frame) (n : Nat) {k : FrameKind} (hf : f.kind = k.code)
    (hk : k ≠ .consent) :
    (s.joinQueue f n).bus.txQueue.countP TxEntry.consents = s.bus.txQueue.countP TxEntry.consents := by
  have other : (⟨f, n⟩ : TxEntry).consents = false := by
    simp only [TxEntry.consents, hf, beq_eq_false_iff_ne]
    exact fun h => hk (FrameKind.code_inj h)
  simp [State.joinQueue, List.countP_append, other]

theorem During.consents_le {c : Instr} {a s : State} {d : Debt} (h : During c a d s)
    (hf : a.fence.fenced = true) :
    s.bus.txQueue.countP TxEntry.consents ≤ a.bus.txQueue.countP TxEntry.consents := by
  induction h with
  | start => exact le_rfl
  | powerOn => exact Nat.zero_le _
  | lineReset => exact Nat.zero_le _
  | time => simp
  | settle => exact le_rfl
  | errors _ f hb ih => rw [State.onBus_bus, (hb _).2.2.1]; exact ih
  | complete _ i _ _ _ _ ih => exact ((List.eraseIdx_sublist _ i).countP_le).trans ih
  | offerGuard _ k p _ hc _ _ ih =>
    exact (State.countP_joinQueue _ _ _ (k := k) rfl fun e => by simp [hc e] at hf).trans_le ih
  | offerTester _ k _ _ hk _ _ ih =>
    exact (State.countP_joinQueue _ _ _ (k := k) rfl fun e => absurd hk (by simp [e, FrameKind.statusKind])
      ).trans_le ih
  | offerSegment _ x _ _ _ _ ih =>
    have kind : x.kind ≠ .consent := by
      unfold Answer.kind
      split <;> exact nofun
    exact (State.countP_joinQueue _ _ _ (k := x.kind) rfl kind).trans_le ih
  | busOff => simp
  | @enable _ s _ k =>
    have joined := State.countP_joinQueue (s.onBus fun _ => { Backbone.start with mode := .enabled })
      (guardFrame s.config.ownDomain .join (joinPayload s.config.digest s.config.ownDomain k)) 0
      (k := .join) rfl nofun
    exact joined.trans_le (Nat.zero_le _)
  | pop _ _ _ _ _ ih | popAnswer _ _ _ _ ih => simpa [State.popHead] using ih
  | _ => rename_i ih; simpa using ih

/-- Settles O20: a CONSENT is offered only where the state before is not FENCED. -/
theorem fencedQueuesNoConsent : Obligations.FencedQueuesNoConsent := by
  unfold Obligations.FencedQueuesNoConsent
  intro c s t hf he
  obtain ⟨u, hu, rfl⟩ := exec_during he
  have le := hu.consents_le hf
  unfold TxEntry.consents at le
  simpa using le

/-! ## Guard time (R1) -/

/-- The moment that an expiry reaches is no later than the end of any running timer (R1). -/
theorem During.guardTime_bound {c : Instr} {a s : State} {d : Debt} (h : During c a d s)
    (hp : c ≠ .powerOn) (hl : c ≠ .lineReset) {x : Timer} (hx : a.runs x) (hlen : x.length < 2 ^ 32)
    (hel : x.elapsed a.guardTime ≤ x.length) : x.elapsed s.guardTime ≤ x.length := by
  induction h with
  | start => exact hel
  | powerOn _ hc => exact absurd hc (by simp [hp, hl])
  | lineReset _ hc => exact absurd hc hl
  | time tm _ _ hs =>
    obtain ⟨cx, hx⟩ := hx
    have soonest := (State.soonest_iff _ _).mp hs _ hx
    unfold State.reachDue
    split
    · rename_i hlt
      simp only [Timer.remaining, Timer.elapsed, State.setGuardTime_guardTime, Timer.due] at *
      bv_omega
    · exact hel
  | settle => exact hel
  | _ => rename_i ih; simpa using ih

/-! ## The empty queue (R1) -/

/-- The command of a running timer is the expiry of a timer. -/
theorem State.timerExpiry_of_mem {s : State} {c : Instr} {tm : Timer} (h : (c, tm) ∈ s.runningTimers) :
    timerExpiry c = true := by
  by_cases hr : s.phase = .running
  · rcases (State.mem_runningTimers hr).mp h with ⟨u, hu⟩ | hv | ⟨r, -, hr⟩
    · rcases State.mem_testerTimers.mp hu with ⟨k, -, ⟨rfl, -⟩ | ⟨rfl, -⟩⟩ | ⟨rfl, -⟩ <;> rfl
    · rcases State.mem_serviceTimers.mp hv with ⟨e, -, rfl, -⟩ | ⟨v, -, -, rfl⟩ | ⟨o, -, -, rfl⟩ <;> rfl
    · rcases Record.mem_timers.mp hr with ⟨-, rfl⟩ | ⟨q, -, ⟨-, rfl⟩ | ⟨-, rfl⟩⟩ <;> rfl
  · by_cases hs : s.phase = .starting
    · obtain ⟨rfl, -⟩ := (State.runningTimers_starting hs _).mp h
      rfl
    · simp [State.runningTimers_of_idle hr hs] at h

/-- With no expiry due, an empty queue lets a millisecond pass. -/
theorem State.step_of_quiet {s : State} (hp : s.pending = [])
    (hq : ∀ x ∈ s.runningTimers, x.2.elapsed s.guardTime < x.2.length) : step s = .next s.tick := by
  have none : s.dueExpiry = none := s.dueExpiry_none.mpr hq
  simp [step, hp, none]

/-- With a timer at its end, an empty queue runs the expiry of such a timer. -/
theorem State.step_of_due {s : State} (hp : s.pending = []) {x : Instr × Timer}
    (hx : x ∈ s.runningTimers) (hd : x.2.length ≤ x.2.elapsed s.guardTime) :
    ∃ y ∈ s.runningTimers, y.2.length ≤ y.2.elapsed s.guardTime ∧ step s = exec y.1 s := by
  cases hc : s.dueExpiry with
  | none => exact absurd (s.dueExpiry_none.mp hc x hx) (not_lt.mpr hd)
  | some c =>
    obtain ⟨tm, hm, ht⟩ := State.dueExpiry_some hc
    exact ⟨(c, tm), hm, ht, by simp [step, hp, hc]⟩

/-- No step but a start lets guard time pass the end of a running timer (R1). -/
theorem State.step_guardTime {s t : State} (ht : step s = .next t)
    (hs : ∀ rest, s.pending ≠ .powerOn :: rest ∧ s.pending ≠ .lineReset :: rest)
    {x : Instr × Timer} (hx : x ∈ s.runningTimers) (hlen : x.2.length < 2 ^ 32)
    (hel : x.2.elapsed s.guardTime ≤ x.2.length) : x.2.elapsed t.guardTime ≤ x.2.length := by
  have bound {c : Instr} {a : State} (he : exec c a = .next t) (hp : c ≠ .powerOn) (hl : c ≠ .lineReset)
      (ha : a.runs x.2) (hg : a.guardTime = s.guardTime) : x.2.elapsed t.guardTime ≤ x.2.length := by
    obtain ⟨u, hu, rfl⟩ := exec_during he
    simpa using hu.guardTime_bound hp hl ha hlen (by rwa [hg])
  rcases step_cases s with ⟨c, rest, hp, hc⟩ | ⟨c, hp, hd, hc⟩ | ⟨hp, hd, hc⟩
  · refine bound (hc.symm.trans ht) ?_ ?_ ⟨x.1, hx⟩ rfl
    · rintro rfl
      exact (hs rest).1 hp
    · rintro rfl
      exact (hs rest).2 hp
  · obtain ⟨tm, hm, -⟩ := State.dueExpiry_some hd
    have expiry := State.timerExpiry_of_mem hm
    refine bound (hc.symm.trans ht) ?_ ?_ ⟨x.1, hx⟩ rfl <;> (rintro rfl; exact absurd expiry nofun)
  · obtain rfl : s.tick = t := Host.Outcome.next.inj (hc.symm.trans ht)
    have running := s.dueExpiry_none.mp hd x hx
    unfold State.tick
    split
    · exact hel
    · simp only [Timer.elapsed, State.setGuardTime_guardTime] at *
      bv_omega

/-- Settles O2: the queue's cases from `step_cases`, the timers that run from their lists. -/
theorem emptyQueueTick : Obligations.EmptyQueueTick := by
  unfold Obligations.EmptyQueueTick
  refine ⟨fun s hp => ⟨?held, fun hh hq => ?tick, fun x hx hd => State.step_of_due hp hx hd⟩,
    fun s t ht hs hb x hx => State.step_guardTime ht hs hx (hb x hx).1 (hb x hx).2, fun s c tm => ?timers⟩
  case held =>
    rintro ⟨k, hk⟩
    have none : s.runningTimers = [] := State.runningTimers_of_idle (by simp [hk]) (by simp [hk])
    rw [State.step_of_quiet hp (by simp [none]), State.tick, hk]
  case tick =>
    rw [State.step_of_quiet hp hq]
    unfold State.tick
    split
    · exact absurd ‹_› (hh _)
    · rfl
  case timers =>
    refine ⟨fun hr => ?_, fun hs => State.runningTimers_starting hs (c, tm),
      fun hr hs => State.runningTimers_of_idle hr hs⟩
    rw [State.mem_runningTimers hr, State.mem_serviceTimers]
    simp only [State.mem_testerTimers, Lane.gap?_eq_some, Record.mem_timers, exists_or, or_assoc]

end Sys2Proof.Machine

/-!
PROOF. The frames of the controller (R10, R11): an invariant of every step is one of every change, and of
what the end of a command and the passing of time do.
-/

namespace Sys2Proof.Machine

/-- What every change keeps, and the queue of commands, guard time and the lines do not bear on, every step
keeps. -/
theorem kept_of_during {P : State → Prop} (hq : ∀ s l, P s → P { s with pending := l })
    (hg : ∀ s g, P s → P (s.setGuardTime g)) (hd : ∀ s, P s → P s.drive)
    (hc : ∀ c a u, P a → During c a .clear u → P u) {s t : State} (hs : P s) (ht : step s = .next t) :
    P t := by
  have exec_keeps {c : Instr} {a : State} (ha : P a) (he : exec c a = .next t) : P t := by
    obtain ⟨u, hu, rfl⟩ := exec_during he
    exact hd u (hc c a u ha hu)
  rcases step_cases s with ⟨c, rest, -, hc⟩ | ⟨c, -, -, hc⟩ | ⟨-, -, hc⟩
  · exact exec_keeps (hq s rest hs) (hc.symm.trans ht)
  · exact exec_keeps hs (hc.symm.trans ht)
  · obtain rfl : s.tick = t := Host.Outcome.next.inj (hc.symm.trans ht)
    unfold State.tick
    split
    · exact hs
    · exact hg s _ hs

/-! ## The receive FIFO (R10) -/

/-- The place kept for the echo of an own frame under way. -/
def Backbone.echoPlace (b : Backbone) : Nat := if b.sending.isSome then 1 else 0

/-- The receive FIFO keeps its bound (R10). -/
def Backbone.FifoFits (b : Backbone) : Prop := b.rxFifo.length + b.echoPlace ≤ 32

theorem Backbone.echoPlace_le (b : Backbone) : b.echoPlace ≤ 1 := by
  unfold Backbone.echoPlace
  split <;> omega

theorem State.fifoBounded_iff (s : State) : s.fifoBounded = true ↔ s.bus.FifoFits := by
  simp [State.fifoBounded, Config.rxPlaces, Backbone.FifoFits, Backbone.echoPlace]

/-- A controller with no frame received keeps the bound. -/
theorem Backbone.fifoFits_of_empty {b : Backbone} (hf : b.rxFifo = []) : b.FifoFits := by
  have := b.echoPlace_le
  simp only [Backbone.FifoFits, hf, List.length_nil]
  omega

theorem Backbone.fifoFits_tail {b : Backbone} (h : b.FifoFits) :
    ({ b with rxFifo := b.rxFifo.tail } : Backbone).FifoFits := by
  have same : ({ b with rxFifo := b.rxFifo.tail } : Backbone).echoPlace = b.echoPlace := rfl
  simp only [Backbone.FifoFits, List.length_tail, same] at h ⊢
  omega

/-- A frame that finds a place joins the FIFO within the bound (R10). -/
theorem Backbone.fifoFits_receive {b : Backbone} (f : Frame) (hp : b.placeForFrame = true) :
    ({ b with rxFifo := b.rxFifo ++ [⟨f, false, 0⟩] } : Backbone).FifoFits := by
  have same : ({ b with rxFifo := b.rxFifo ++ [⟨f, false, 0⟩] } : Backbone).echoPlace = b.echoPlace := rfl
  have place : b.rxFifo.length + b.echoPlace < 32 := by
    simpa [Backbone.placeForFrame, Config.rxPlaces, Backbone.echoPlace] using hp
  simp only [Backbone.FifoFits, List.length_append, List.length_singleton, same]
  omega

theorem During.fifoFits {c : Instr} {a s : State} {d : Debt} (h : During c a d s)
    (ha : a.bus.FifoFits) : s.bus.FifoFits := by
  induction h with
  | start => exact ha
  | powerOn | lineReset | busOff => exact Backbone.fifoFits_of_empty rfl
  | enable => exact Backbone.fifoFits_of_empty rfl
  | time => simpa using ha
  | settle => exact ha
  | @errors _ s _ f hf ih =>
    have same : (f s.bus).echoPlace = s.bus.echoPlace := by simp [Backbone.echoPlace, hf]
    simpa [Backbone.FifoFits, same, hf] using ih
  | receive _ f _ hp => exact Backbone.fifoFits_receive f hp
  | @arbitrate _ s _ hl =>
    have := Backbone.echoPlace_le { s.bus with sending := chooseEntry s.bus.txQueue }
    exact (Nat.add_le_add_left this _).trans hl
  | @stopSending _ s _ ih =>
    have none : ({ s.bus with sending := none } : Backbone).echoPlace = 0 := rfl
    simp only [State.onBus_bus, Backbone.FifoFits, none] at ih ⊢
    omega
  | complete _ i e _ hs _ ih =>
    simp only [Backbone.FifoFits, Backbone.echoPlace, hs] at ih
    simpa [Backbone.FifoFits, Backbone.echoPlace] using ih
  | pop _ _ _ _ _ ih => exact Backbone.fifoFits_tail ih
  | popAnswer _ _ _ _ ih => exact Backbone.fifoFits_tail ih
  | offerGuard _ _ _ _ _ _ _ ih | offerTester _ _ _ _ _ _ _ ih | offerSegment _ _ _ _ _ _ ih => exact ih
  | _ => rename_i ih; simpa using ih

/-! ## The transmit queue (R11) -/

/-- The transmit queue keeps its two bounds (R11). -/
def Backbone.TxFits (b : Backbone) : Prop := b.txQueue.length ≤ 24 ∧ b.testerEntries ≤ 16

theorem State.txBounded_iff (s : State) : s.txBounded = true ↔ s.bus.TxFits := by
  simp [State.txBounded, Config.txEntries, Config.txTesterBound, Backbone.TxFits]

theorem Backbone.TxFits.sublist {b b' : Backbone} (h : b.TxFits) (hs : b'.txQueue.Sublist b.txQueue) :
    b'.TxFits :=
  ⟨hs.length_le.trans h.1, hs.countP_le.trans h.2⟩

/-- A protocol frame joins with room for one (R11). -/
theorem State.txFits_joinProtocol {s : State} {k : FrameKind} {p : List Byte}
    (hk : k.guardKind = true) (hr : s.bus.txQueue.length < 24) (h : s.bus.TxFits) :
    (s.joinQueue (guardFrame s.config.ownDomain k p) 0).bus.TxFits := by
  have protocol : (⟨guardFrame s.config.ownDomain k p, 0⟩ : TxEntry).isProtocol = true := by
    simp [TxEntry.isProtocol, Frame.kind?, guardFrame, ownFrame, hk]
  constructor
  · simpa [State.joinQueue] using hr
  · simpa [State.joinQueue, Backbone.testerEntries, protocol] using h.2

/-- A tester-bound frame joins with room for one (R11, R13). -/
theorem State.txFits_joinTester {s : State} {f : Frame} {n : Nat} (hr : s.roomForTester = true) :
    (s.joinQueue f n).bus.TxFits := by
  simp only [State.roomForTester, Bool.and_eq_true, decide_eq_true_eq, Config.txTesterBound,
    Config.txEntries] at hr
  obtain ⟨hc, hl⟩ := hr
  constructor
  · simp only [State.joinQueue, State.onBus_bus, List.length_append, List.length_singleton]
    omega
  · simp only [Backbone.testerEntries, State.joinQueue, State.onBus_bus, List.countP_append,
      List.countP_singleton] at hc ⊢
    split <;> omega

theorem During.txFits {c : Instr} {a s : State} {d : Debt} (h : During c a d s)
    (ha : a.bus.TxFits) : s.bus.TxFits := by
  induction h with
  | start => exact ha
  | powerOn | lineReset | busOff => exact ⟨Nat.zero_le _, Nat.zero_le _⟩
  | time => simpa using ha
  | settle => exact ha
  | errors _ f hf ih => exact ih.sublist (by rw [State.onBus_bus, (hf _).2.2.1])
  | offerGuard _ k p hk _ _ hr ih =>
    exact State.txFits_joinProtocol hk (by simpa [State.roomForProtocol, Config.txEntries] using hr) ih
  | offerTester _ _ _ _ _ _ hr => exact State.txFits_joinTester hr
  | offerSegment _ _ _ _ hr => exact State.txFits_joinTester hr
  | complete _ i _ _ _ _ ih => exact ih.sublist (List.eraseIdx_sublist _ i)
  | @enable _ s _ k =>
    exact State.txFits_joinProtocol (k := .join) (p := joinPayload s.config.digest s.config.ownDomain k)
      (s := s.onBus fun _ => { Backbone.start with mode := .enabled }) rfl (Nat.zero_lt_succ _)
      ⟨Nat.zero_le _, Nat.zero_le _⟩
  | receive _ _ _ _ ih | arbitrate _ _ ih | stopSending _ ih => exact ih
  | pop _ _ _ _ _ ih => exact ih
  | popAnswer _ _ _ _ ih => exact ih
  | _ => rename_i ih; simpa using ih

/-- Settles O9: both bounds are kept by every change. -/
theorem busQueuesBounded : Obligations.BusQueuesBounded := by
  unfold Obligations.BusQueuesBounded
  intro s t ht
  rw [State.fifoBounded_iff, State.fifoBounded_iff, State.txBounded_iff, State.txBounded_iff]
  exact ⟨fun hs => kept_of_during (P := fun s => s.bus.FifoFits) (fun _ _ h => h) (fun _ _ h => h)
      (fun s h => by simpa using h) (fun _ _ _ ha hu => hu.fifoFits ha) hs ht,
    fun hs => kept_of_during (P := fun s => s.bus.TxFits) (fun _ _ h => h) (fun _ _ h => h)
      (fun s h => by simpa using h) (fun _ _ _ ha hu => hu.txFits ha) hs ht⟩

end Sys2Proof.Machine

/-!
PROOF. The fence, the stop order and the notice queue are sound together (R160, R166, R168, R171, R182). The
entry into FENCED passes through states that are FENCED with effecting requests not removed yet, which the
debt `fencing` marks.
-/

namespace Sys2Proof.Machine

/-! ## The fence (R168, R171) -/

/-- No effecting request is queued or in service. -/
def Delivery.Quiet (q : Delivery) : Prop :=
  (∀ e ∈ q.queue, e.cls.effecting = false) ∧ ∀ v, q.service = some v → v.cls.effecting = false

/-- A fence cause stands only while FENCED; and while FENCED, but for the entry into it, the delivery unit
is quiet (R168, R171). -/
def FenceFits (d : Debt) (f : Fence) (q : Delivery) : Prop :=
  (f.fenced = true ∨ f.causes = 0) ∧ (d ≠ .fencing → f.fenced = true → q.Quiet)

theorem State.fenceSound_iff (s : State) : s.fenceSound = true ↔ FenceFits .clear s.fence s.delivery := by
  cases hf : s.fence.fenced <;> cases hv : s.delivery.service <;>
    simp [State.fenceSound, FenceFits, Delivery.Quiet, hf, hv]

theorem FenceFits.same {d : Debt} {f f' : Fence} {q : Delivery} (h : FenceFits d f q)
    (hf : f'.fenced = f.fenced) (hc : f'.causes = f.causes) : FenceFits d f' q := by
  unfold FenceFits
  rw [hf, hc]
  exact h

/-- Requests that leave, or stay with their classes, leave the fence sound. -/
theorem FenceFits.fewer {d d' : Debt} {f : Fence} {q q' : Delivery} (h : FenceFits d f q)
    (hd : d' ≠ .fencing → d ≠ .fencing) (hq : ∀ e ∈ q'.queue, e ∈ q.queue)
    (hv : ∀ v, q'.service = some v → ∃ w, q.service = some w ∧ v.cls = w.cls) : FenceFits d' f q' := by
  refine ⟨h.1, fun hn hf => ?_⟩
  obtain ⟨queued, served⟩ := h.2 (hd hn) hf
  refine ⟨fun e he => queued e (hq e he), fun v hs => ?_⟩
  obtain ⟨w, hw, hc⟩ := hv v hs
  rw [hc]
  exact served w hw

theorem Fence.writeIncident_keeps (f : Fence) (i : Incident) :
    (f.writeIncident i).fenced = f.fenced ∧ (f.writeIncident i).causes = f.causes ∧
      (f.writeIncident i).stop = f.stop ∧ (f.writeIncident i).marker = f.marker := by
  unfold Fence.writeIncident
  split
  · split <;> exact ⟨rfl, rfl, rfl, rfl⟩
  · exact ⟨rfl, rfl, rfl, rfl⟩

/-- Issuing an order changes the fence unit's order and incident only. -/
theorem State.issueStopFor_fence (s : State) (v : Service) (cause : StopCause) :
    (s.issueStopFor v cause).fence.fenced = s.fence.fenced ∧
    (s.issueStopFor v cause).fence.causes = s.fence.causes ∧
    (s.issueStopFor v cause).fence.stop = some (s.stopOrderFor v cause) ∧
    (s.issueStopFor v cause).delivery =
      { s.delivery with service := s.delivery.service.map fun v => { v with limit := none } } := by
  have keeps := Fence.writeIncident_keeps { s.fence with stop := some (s.stopOrderFor v cause) }
  have order : (s.updateService fun v => { v with limit := none }).stopOrderFor v cause =
      s.stopOrderFor v cause := rfl
  simp only [State.issueStopFor, State.post_keeps, State.queueNotice_keeps, State.writeIncident_eq,
    State.onFence_fence, State.onFence_delivery, State.setOperation_keeps, State.updateService_keeps, order,
    keeps]
  exact ⟨trivial, trivial, trivial, rfl⟩

theorem During.fenceFits {c : Instr} {a s : State} {d : Debt} (h : During c a d s)
    (ha : FenceFits .clear a.fence a.delivery) : FenceFits d s.fence s.delivery := by
  have map {f : Service → Service} (hf : ∀ v, (f v).cls = v.cls) (q : Delivery) (v : Service)
      (hv : q.service.map f = some v) : ∃ w, q.service = some w ∧ v.cls = w.cls := by
    obtain ⟨w, hw, rfl⟩ := Option.map_eq_some_iff.mp hv
    exact ⟨w, hw, hf w⟩
  have none_served (q : Delivery) (v : Service) (hv : none = some v) :
      ∃ w, q.service = some w ∧ v.cls = w.cls := absurd hv nofun
  induction h with
  | start => exact ha
  | powerOn => exact ⟨.inr rfl, fun _ hf => absurd hf nofun⟩
  | lineReset _ _ ih =>
    exact ⟨ih.1, fun _ _ => ⟨fun e he => absurd he List.not_mem_nil,
      fun v hv => absurd hv (Option.some_ne_none v).symm⟩⟩
  | time => simpa using ha
  | settle => exact ha
  | suspend _ _ _ ih | remove _ _ _ ih => exact ⟨ih.1, fun _ => ih.2 nofun⟩
  | enqueue _ t x e _ _ _ he _ hf ih =>
    refine ⟨by simpa using ih.1, fun _ hfen => ?_⟩
    simp only [State.onDelivery_fence, State.setLane_fence] at hfen
    obtain ⟨queued, served⟩ := ih.2 nofun hfen
    refine ⟨fun y hy => ?_, by simpa using served⟩
    simp only [State.onDelivery_delivery, State.setLane_delivery, List.mem_append,
      List.mem_singleton] at hy
    rcases hy with hy | rfl
    · exact queued y hy
    · rw [he.2.2.1]
      by_contra hx
      simp [hf (by simpa using hx)] at hfen
  | dropEntries _ _ ih => exact ih.fewer id (fun _ => List.mem_of_mem_filter) fun v hv => ⟨v, hv, rfl⟩
  | dropClaim _ ih =>
    exact ih.fewer nofun (fun _ => List.mem_of_mem_filter) fun v hv => ⟨v, hv, rfl⟩
  | handOver _ e v _ he _ _ hx hs ih =>
    refine ⟨ih.1, fun hd hf => ?_⟩
    obtain ⟨queued, -⟩ := ih.2 hd hf
    refine ⟨fun y hy => queued y (List.mem_of_mem_erase hy), fun w hw => ?_⟩
    obtain rfl : v = w := Option.some.inj hw
    rw [hs.2.2.1]
    exact queued e he
  | service _ f hf _ ih => exact ih.fewer id (fun _ h => h) (map (fun v => (hf v).2.2.1) _)
  | stageBytes _ v bytes _ _ ih =>
    exact ih.fewer id (fun _ h => h) (map (f := fun v => { v with staged := v.staged ++ bytes })
      (fun _ => rfl) _)
  | leave _ _ _ _ _ _ ih => exact ih.fewer id (fun _ h => h) (none_served _)
  | answer _ _ _ _ _ _ _ _ _ ih => exact ih.fewer id (fun _ h => h) (none_served _)
  | startFencing => exact ⟨.inl rfl, fun hd => absurd rfl hd⟩
  | endFencing _ hv _ ih =>
    refine ⟨ih.1, fun _ _ => ⟨fun e he => ?_, hv⟩⟩
    simpa using (List.mem_filter.mp he).2
  | causes _ f _ hf ih =>
    refine ⟨?_, ih.2⟩
    rcases ih.1 with h | h
    · exact .inl h
    · exact hf.imp id fun h0 => by rw [← h0, ← h]; rfl
  | lift => exact ⟨.inr rfl, fun _ hf => absurd hf nofun⟩
  | incident _ _ _ ih | marker _ _ _ ih | settleOrder _ _ ih | abandonOrder _ _ _ _ ih
  | orphanOrder _ _ ih => exact ih.same rfl rfl
  | writeIncident _ i _ ih =>
    exact ih.same (Fence.writeIncident_keeps _ i).1 (Fence.writeIncident_keeps _ i).2.1
  | issueStop _ v cause _ _ _ _ _ ih =>
    obtain ⟨fenced, causes, -, delivery⟩ := State.issueStopFor_fence _ v cause
    refine FenceFits.same ?_ fenced causes
    rw [delivery]
    exact ih.fewer id (fun _ h => h) (map (f := fun v => { v with limit := none }) (fun _ => rfl) _)
  | _ => rename_i ih; simpa using ih

/-! ## The notice queue (R182) -/

/-- An erased member of a list is one that the test finds. -/
theorem eraseP_split {α : Type} {p : α → Bool} {l : List α} (h : ∃ x ∈ l, p x = true) :
    ∃ l₁ x l₂, p x = true ∧ l = l₁ ++ x :: l₂ ∧ l.eraseP p = l₁ ++ l₂ := by
  obtain ⟨x, hx, hp⟩ := h
  obtain ⟨y, l₁, l₂, -, hy, hl, he⟩ := List.exists_of_eraseP hx hp
  exact ⟨l₁, y, l₂, hy, hl, he⟩

theorem dropNotice_sublist (q : List Notice) : (dropNotice q).Sublist q := by
  unfold dropNotice
  split <;> exact List.eraseP_sublist

/-- The bounds of the notice queue, one STOP notice of the order among them (R160, R182). -/
structure NoticesFit (q : List Notice) : Prop where
  places : q.length ≤ 8
  plain : q.countP Notice.plain ≤ 7
  order : q.countP (fun n => n.ofOrder) ≤ 1
  stops : ∀ n ∈ q, n.ofOrder = true → n.plain = false

theorem noticesFit_iff (l : Link) :
    l.orderNotices = true ∧ l.noticesBounded = true ↔ NoticesFit l.notices := by
  simp only [Link.orderNotices, Link.noticesBounded, Config.noticePlaces, Config.noticePlain,
    Bool.and_eq_true, decide_eq_true_eq, List.all_eq_true, Bool.or_eq_true, Bool.not_eq_true']
  constructor
  · rintro ⟨⟨ho, hs⟩, hl, hp⟩
    exact ⟨hl, hp, ho, fun n hn h => (hs n hn).resolve_left (by simp [h])⟩
  · rintro ⟨hl, hp, ho, hs⟩
    refine ⟨⟨ho, fun n hn => ?_⟩, hl, hp⟩
    cases h : n.ofOrder with
    | false => exact .inl rfl
    | true => exact .inr (hs n hn h)

theorem NoticesFit.sublist {q r : List Notice} (h : NoticesFit q) (hs : r.Sublist q) : NoticesFit r :=
  ⟨hs.length_le.trans h.places, hs.countP_le.trans h.plain, hs.countP_le.trans h.order,
    fun n hn => h.stops n (hs.subset hn)⟩

/-- The notice queue with the room that a notice finds in it (R182). -/
def roomFor (q : List Notice) (n : Notice) : List Notice :=
  if noticeNeedsRoom q n then dropNotice q else q

theorem roomFor_sublist (q : List Notice) (n : Notice) : (roomFor q n).Sublist q := by
  unfold roomFor
  split
  · exact dropNotice_sublist q
  · exact .refl q

theorem State.queueNotice_notices (s : State) (n : Notice) :
    (s.queueNotice n).link.notices = roomFor s.link.notices n ++ [n] := by
  simp only [State.queueNotice, State.onLink_link, roomFor]
  split <;> rfl

/-- Room is made: a place, and one for a notice other than STOP where it is such (R182). -/
theorem NoticesFit.room {q : List Notice} (h : NoticesFit q) (n : Notice) :
    (roomFor q n).length ≤ 7 ∧ (n.plain = true → (roomFor q n).countP Notice.plain ≤ 6) := by
  obtain ⟨places, plain, order, -⟩ := h
  unfold roomFor
  split
  · rename_i hneed
    simp only [noticeNeedsRoom, Config.noticePlaces, Config.noticePlain, Bool.or_eq_true,
      decide_eq_true_eq, Bool.and_eq_true] at hneed
    by_cases hp : q.any Notice.plain = true
    · obtain ⟨l₁, x, l₂, hx, rfl, he⟩ := eraseP_split (List.any_eq_true.mp hp)
      rw [dropNotice, if_pos hp, he]
      simp only [List.length_append, List.length_cons, List.countP_append, List.countP_cons, hx,
        if_true] at places plain ⊢
      omega
    · have none : q.countP Notice.plain = 0 := by
        rw [List.countP_eq_zero]
        simpa using hp
      have full : 8 ≤ q.length := by omega
      have waits : ∃ x ∈ q, (!x.ofOrder) = true := by
        by_contra hn
        have all : q.countP (fun n => n.ofOrder) = q.length := by
          rw [List.countP_eq_length]
          intro x hx
          by_contra hf
          exact hn ⟨x, hx, by simpa using hf⟩
        omega
      obtain ⟨l₁, x, l₂, -, rfl, he⟩ := eraseP_split waits
      rw [dropNotice, if_neg hp, he]
      simp only [List.length_append, List.length_cons, List.countP_append, List.countP_cons]
        at places none ⊢
      omega
  · rename_i hneed
    simp only [noticeNeedsRoom, Config.noticePlaces, Config.noticePlain, Bool.or_eq_true,
      decide_eq_true_eq, Bool.and_eq_true, not_or, not_and, not_le] at hneed
    exact ⟨by omega, fun hp => by have := hneed.2 hp; omega⟩

/-- A notice joins within the bounds: it stands for no order, or is the STOP notice of the first (R182). -/
theorem NoticesFit.join {q : List Notice} (h : NoticesFit q) {n : Notice}
    (hn : n.ofOrder = false ∨ n.plain = false ∧ ∀ m ∈ q, m.ofOrder = false) :
    NoticesFit (roomFor q n ++ [n]) := by
  obtain ⟨places, plain⟩ := h.room n
  have kept := h.sublist (roomFor_sublist q n)
  refine ⟨by simpa using Nat.lt_succ_of_le places, ?_, ?_, fun m hm ho => ?_⟩
  · simp only [List.countP_append, List.countP_singleton]
    split
    · have := plain ‹_›
      omega
    · exact kept.plain
  · simp only [List.countP_append, List.countP_singleton]
    rcases hn with hn | ⟨-, hq⟩
    · simpa [hn] using kept.order
    · have zero : (roomFor q n).countP (fun n => n.ofOrder) = 0 := by
        rw [List.countP_eq_zero]
        intro m hm
        simp [hq m ((roomFor_sublist q n).subset hm)]
      rw [zero]
      split <;> omega
  · rcases List.mem_append.mp hm with hm | hm
    · exact kept.stops m hm ho
    · obtain rfl : m = n := by simpa using hm
      exact (hn.resolve_left (by simp [ho])).1

/-! ## The stop order (R160, R161, R166) -/

/-- A stop order stands for a request in service (R160, R161). -/
def StopOrder.StandsFor (o : StopOrder) (v : Service) : Prop :=
  v.cls.effecting = true ∧ v.tester = o.tester ∧ v.tag = o.tag ∧ v.claim = o.claim ∧ v.cls = o.cls ∧
    v.limit = none

/-- The stop order, the request in service and the notice queue fit each other; at the entry into FENCED an
order may still stand. -/
structure StopFits (d : Debt) (f : Fence) (q : Option Service) (l : List Notice) : Prop where
  idle : f.stop = none → ∀ n ∈ l, n.ofOrder = false
  opened : ∀ o, f.stop = some o → d ≠ .fencing → f.fenced = false
  stands : ∀ o, f.stop = some o → ∃ v, q = some v ∧ o.StandsFor v
  notices : NoticesFit l

theorem State.stopSound_iff (s : State) :
    s.stopSound = true ↔ StopFits .clear s.fence s.delivery.service s.link.notices := by
  have stands : s.stopStands = true ↔
      (s.fence.stop = none → ∀ n ∈ s.link.notices, n.ofOrder = false) ∧
      (∀ o, s.fence.stop = some o → s.fence.fenced = false) ∧
      ∀ o, s.fence.stop = some o → ∃ v, s.delivery.service = some v ∧ o.StandsFor v := by
    cases ho : s.fence.stop with
    | none => simp [State.stopStands, ho]
    | some o =>
      cases hv : s.delivery.service <;>
        simp [State.stopStands, ho, hv, StopOrder.StandsFor, and_assoc]
  rw [State.stopSound, Bool.and_assoc, Bool.and_eq_true, Bool.and_eq_true, stands, noticesFit_iff]
  constructor
  · rintro ⟨⟨h1, h2, h3⟩, h4⟩
    exact ⟨h1, fun o ho _ => h2 o ho, h3, h4⟩
  · rintro ⟨h1, h2, h3, h4⟩
    exact ⟨⟨h1, fun o ho => h2 o ho nofun, h3⟩, h4⟩

namespace StopFits

variable {d : Debt} {f f' : Fence} {q q' : Option Service} {l : List Notice}

/-- A change of the fence unit that leaves the order and the domain state. -/
theorem same (h : StopFits d f q l) (hs : f'.stop = f.stop) (hf : f'.fenced = f.fenced) :
    StopFits d f' q l :=
  ⟨fun hn => h.idle (hs ▸ hn), fun o ho hd => hf ▸ h.opened o (hs ▸ ho) hd,
    fun o ho => h.stands o (hs ▸ ho), h.notices⟩

/-- Without an order, whatever is in service. -/
theorem served (h : StopFits d f q l) (hn : f.stop = none) : StopFits d f q' l :=
  ⟨h.idle, fun o ho => absurd ho (by simp [hn]), fun o ho => absurd ho (by simp [hn]), h.notices⟩

/-- A change of the request in service that every order survives. -/
theorem mapped (h : StopFits d f q l) {g : Service → Service} (hq : q' = q.map g)
    (hg : ∀ o v, f.stop = some o → o.StandsFor v → o.StandsFor (g v)) : StopFits d f q' l := by
  refine ⟨h.idle, h.opened, fun o ho => ?_, h.notices⟩
  obtain ⟨v, hv, hst⟩ := h.stands o ho
  exact ⟨g v, by simp [hq, hv], hg o v ho hst⟩

/-- An order that ends leaves its notices standing for none. -/
theorem ended (h : NoticesFit l) (hn : f.stop = none) (hl : ∀ n ∈ l, n.ofOrder = false) :
    StopFits d f q l :=
  ⟨fun _ => hl, fun o ho => absurd ho (by simp [hn]), fun o ho => absurd ho (by simp [hn]), h⟩

theorem noticed (h : StopFits d f q l) {n : Notice} (hn : n.ofOrder = false) :
    StopFits d f q (roomFor l n ++ [n]) := by
  refine ⟨fun ho m hm => ?_, h.opened, h.stands, h.notices.join (.inl hn)⟩
  rcases List.mem_append.mp hm with hm | hm
  · exact h.idle ho m ((roomFor_sublist l n).subset hm)
  · obtain rfl : m = n := by simpa using hm
    exact hn

end StopFits

/-- Issuing an order queues its STOP notice (R161). -/
theorem State.issueStopFor_notices (s : State) (v : Service) (cause : StopCause) :
    (s.issueStopFor v cause).link.notices =
      roomFor s.link.notices ⟨.stop, s.guardTime, some v.tester, some v.tag, v.claim, some v.cls,
        cause.code, true⟩ ++
        [⟨.stop, s.guardTime, some v.tester, some v.tag, v.claim, some v.cls, cause.code, true⟩] := by
  simp [State.issueStopFor, State.queueNotice_notices]

theorem During.stopFits {c : Instr} {a s : State} {d : Debt} (h : During c a d s)
    (hf : FenceFits .clear a.fence a.delivery)
    (ha : StopFits .clear a.fence a.delivery.service a.link.notices) :
    StopFits d s.fence s.delivery.service s.link.notices := by
  have empty : NoticesFit [] := ⟨Nat.zero_le _, Nat.zero_le _, Nat.zero_le _, nofun⟩
  induction h with
  | start => exact ha
  | powerOn => exact .ended empty rfl fun _ hn => absurd hn List.not_mem_nil
  | lineReset => exact .ended empty rfl fun _ hn => absurd hn List.not_mem_nil
  | time => simpa using ha
  | settle => exact ha
  | suspend _ _ _ ih | remove _ _ _ ih =>
    exact ⟨ih.idle, fun o ho _ => ih.opened o ho nofun, ih.stands, ih.notices⟩
  | dropClaim _ ih => exact ⟨ih.idle, fun o ho _ => ih.opened o ho nofun, ih.stands, ih.notices⟩
  | handOver _ _ _ _ _ _ ho _ _ ih => exact ih.served ho
  | service _ f hs hl ih =>
    refine ih.mapped rfl fun o v ho hst => ?_
    obtain ⟨h1, h2, h3, h4, h5, h6⟩ := hst
    obtain ⟨g1, g2, g3, g4, -, -⟩ := hs v
    exact ⟨g3 ▸ h1, g1 ▸ h2, g2 ▸ h3, g4 ▸ h4, g3 ▸ h5,
      (hl.resolve_left (by simp [ho])) v h6⟩
  | stageBytes _ _ _ _ _ ih => exact ih.mapped rfl fun _ _ _ hst => hst
  | leave _ v w hv _ ho ih =>
    rcases ho with ho | ho
    · exact ih.served ho
    · refine ih.served ?_
      by_contra hn
      obtain ⟨o, hstop⟩ := Option.ne_none_iff_exists'.mp hn
      obtain ⟨v', hv', hst⟩ := ih.stands o hstop
      obtain rfl : v = v' := Option.some.inj (hv.symm.trans hv')
      simp [hst.1] at ho
  | answer _ _ _ _ _ ho _ _ _ ih => exact ih.served ho
  | startFencing _ _ _ ih => exact ⟨ih.idle, fun _ _ hd => absurd rfl hd, ih.stands, ih.notices⟩
  | @endFencing s _ _ ho ih =>
    have none : s.fence.stop = none := ho.elim id fun hv => by
      by_contra hn
      obtain ⟨o, hstop⟩ := Option.ne_none_iff_exists'.mp hn
      obtain ⟨v, hv', -⟩ := ih.stands o hstop
      simp [hv] at hv'
    exact .ended ih.notices none (ih.idle none)
  | causes _ _ _ _ ih | incident _ _ _ ih | marker _ _ _ ih => exact ih.same rfl rfl
  | writeIncident _ i _ ih =>
    exact ih.same (Fence.writeIncident_keeps _ i).2.2.1 (Fence.writeIncident_keeps _ i).1
  | lift _ _ ih => exact ⟨ih.idle, fun _ _ _ => rfl, ih.stands, ih.notices⟩
  | issueStop hd v cause _ hdebt hv he ho ih =>
    obtain ⟨fenced, -, stop, delivery⟩ := State.issueStopFor_fence _ v cause
    refine ⟨fun hn => absurd (stop.symm.trans hn) (Option.some_ne_none _), fun o _ _ => ?_, fun o hs => ?_, ?_⟩
    · rw [fenced]
      by_contra hn
      have quiet := (hd.fenceFits hf).2 hdebt ((Bool.not_eq_false _).mp hn)
      simp [quiet.2 v hv] at he
    · obtain rfl := Option.some.inj (stop.symm.trans hs)
      exact ⟨{ v with limit := none }, by simp [delivery, hv], he, rfl, rfl, rfl, rfl, rfl⟩
    · rw [State.issueStopFor_notices]
      exact ih.notices.join (.inr ⟨rfl, ih.idle ho⟩)
  | settleOrder _ _ ih =>
    exact .ended (ih.notices.sublist List.filter_sublist) rfl fun n hn => by
      simpa using (List.mem_filter.mp hn).2
  | abandonOrder _ _ _ _ ih =>
    refine .ended ⟨?_, ?_, ?_, ?_⟩ rfl ?_
    all_goals simp only [State.leaveStopNotice, State.onLink_link]
    · simpa using ih.notices.places
    · rw [List.countP_map]
      exact ih.notices.plain
    · exact (List.countP_eq_zero.mpr (by simp)).trans_le (Nat.zero_le 1)
    · simp
    · simp
  | orphanOrder _ t ih =>
    refine ⟨fun hn => ih.idle (by simpa using hn), fun o ho => ?_, fun o ho => ?_, ih.notices⟩
    · obtain ⟨o', ho', -⟩ := Option.map_eq_some_iff.mp ho
      exact ih.opened o' ho'
    · obtain ⟨o', ho', rfl⟩ := Option.map_eq_some_iff.mp ho
      obtain ⟨v, hv, hst⟩ := ih.stands o' ho'
      exact ⟨v, hv, by simpa [StopOrder.StandsFor] using hst⟩
  | notice _ n hn ih =>
    rw [State.queueNotice_notices]
    simpa using ih.noticed hn
  | handNotice _ n rest hq ih =>
    have tail : rest.Sublist _ := hq ▸ List.sublist_cons_self n rest
    exact ⟨fun ho m hm => ih.idle ho m (tail.subset hm), ih.opened, ih.stands, ih.notices.sublist tail⟩
  | _ => rename_i ih; simpa using ih

/-- Settles O12: the fence first, then the order and the notices with it. -/
theorem fenceAndStopKept : Obligations.FenceAndStopKept := by
  unfold Obligations.FenceAndStopKept
  simp only [State.fenceSound_iff, State.stopSound_iff]
  constructor
  · intro s t hs ht
    refine kept_of_during (P := fun s => FenceFits .clear s.fence s.delivery) (fun _ _ h => h)
      (fun _ _ h => h) (fun s h => ?_) (fun _ _ _ ha hu => hu.fenceFits ha) hs ht
    simpa [FenceFits, Delivery.Quiet] using h
  · intro s t hf hs ht
    refine (kept_of_during (P := fun s => FenceFits .clear s.fence s.delivery ∧
      StopFits .clear s.fence s.delivery.service s.link.notices) (fun _ _ h => h) (fun _ _ h => h)
      (fun s h => ?_) (fun _ _ _ ha hu => ⟨hu.fenceFits ha.1, hu.stopFits ha.1 ha.2⟩) ⟨hf, hs⟩ ht).2
    simpa [FenceFits, Delivery.Quiet] using h

end Sys2Proof.Machine

/-!
PROOF. Requests in assembly, queued and in service: their places, their tags, and the claims they name
(R138, R139, R143, R144, R156).
-/

namespace Sys2Proof.Machine

/-! ## Lanes -/

/-- The tag of a lane in assembly. -/
def Lane.tag? : Lane → Option Byte
  | .assembling x => some x.tag
  | _ => none

/-- The tag that a tester's lane has in assembly. -/
def tagOfLane (lanes : Vector Lane 14) (t : Tester) : Option Byte := lanes[t].tag?

/-- The queue places that lanes in assembly hold (R138). -/
def heldPlaces (lanes : Vector Lane 14) : Nat := lanes.toList.countP fun l => l.tag?.isSome

theorem State.placesHeld_eq (s : State) : s.placesHeld = heldPlaces s.memory.lanes := by
  unfold State.placesHeld heldPlaces
  congr 1
  funext l
  cases l <;> rfl

theorem State.laneTag_eq (s : State) (t : Tester) :
    s.laneTag t = (tagOfLane s.memory.lanes t).map fun b => (t, b) := by
  unfold State.laneTag tagOfLane
  cases s.memory.lanes[t] <;> rfl

theorem tagOfLane_set (lanes : Vector Lane 14) (t u : Tester) (l : Lane) :
    tagOfLane (lanes.set t.val l t.isLt) u = if u = t then l.tag? else tagOfLane lanes u := by
  unfold tagOfLane
  by_cases h : u = t
  · subst h
    simp
  · have : t.val ≠ u.val := fun e => h (Fin.ext e.symm)
    simp [h, this]

theorem tagOfLane_of_assembling {lanes : Vector Lane 14} {t : Tester} {x : Assembly}
    (h : lanes[t] = .assembling x) : tagOfLane lanes t = some x.tag := by
  rw [tagOfLane, h]
  rfl

theorem heldPlaces_set (lanes : Vector Lane 14) (t : Tester) (l : Lane) :
    heldPlaces (lanes.set t.val l t.isLt) + (if (tagOfLane lanes t).isSome then 1 else 0) =
      heldPlaces lanes + if l.tag?.isSome then 1 else 0 := by
  have held := List.boole_getElem_le_countP (p := fun l : Lane => l.tag?.isSome) (l := lanes.toList)
    (i := t.val) (by simp)
  have tag : tagOfLane lanes t = lanes.toList[t.val].tag? := by simp [tagOfLane]
  unfold heldPlaces
  rw [Vector.toList_set, List.countP_set (by simp), tag]
  omega

/-! ## Tags and places (R138, R139, R144) -/

def QueueEntry.key (e : QueueEntry) : Tester × Byte := (e.tester, e.tag)
def Service.key (v : Service) : Tester × Byte := (v.tester, v.tag)

/-- The places and tags of requests: 16 queue places, 4 of a tester, and no tester and tag twice. -/
structure Keyed (lanes : Vector Lane 14) (q : List (Tester × Byte)) (v : Option (Tester × Byte)) :
    Prop where
  places : q.length + heldPlaces lanes ≤ 16
  nodup : (q ++ v.toList).Nodup
  apart : ∀ t b, tagOfLane lanes t = some b → (t, b) ∉ q ++ v.toList
  ofTester : ∀ t, q.countP (fun k => k.1 == t) + (if (tagOfLane lanes t).isSome then 1 else 0) ≤ 4

/-- The tags of different lanes are different. -/
theorem nodup_laneTags (lanes : Vector Lane 14) :
    (allTesters.filterMap fun t => (tagOfLane lanes t).map fun b => (t, b)).Nodup := by
  refine List.Nodup.filterMap (fun t u k ht hu => ?_) (by decide : allTesters.Nodup)
  obtain ⟨_, _, rfl⟩ := Option.map_eq_some_iff.mp ht
  obtain ⟨_, _, hk⟩ := Option.map_eq_some_iff.mp hu
  exact (congrArg Prod.fst hk).symm

theorem State.queueKeyed_iff (s : State) : s.queueKeyed = true ↔
    Keyed s.memory.lanes (s.delivery.queue.map QueueEntry.key) (s.delivery.service.map Service.key) := by
  have tags : s.openTags = (allTesters.filterMap fun t => (tagOfLane s.memory.lanes t).map fun b => (t, b)) ++
      (s.delivery.queue.map QueueEntry.key ++ (s.delivery.service.map Service.key).toList) := by
    unfold State.openTags
    simp only [State.laneTag_eq, List.append_assoc]
    cases s.delivery.service <;> rfl
  have count (t : Tester) : (s.delivery.queue.map QueueEntry.key).countP (fun k => k.1 == t) =
      s.delivery.queue.countP fun e => e.tester == t := by
    rw [List.countP_map]
    rfl
  simp only [State.queueKeyed, State.queueBounded, State.placesOf, Config.queueEntries,
    Config.queuePerTester, Bool.and_eq_true, decide_eq_true_eq, List.all_eq_true, tags,
    State.placesHeld_eq, List.nodup_append (l₁ := List.filterMap _ _), State.laneTag_eq, Option.isSome_map,
    mem_allTesters, true_implies]
  constructor
  · rintro ⟨⟨hp, -, hn, ha⟩, ht⟩
    refine ⟨by simpa using hp, hn, fun t b hb hm => ?_, fun t => (count t).symm ▸ ht t⟩
    exact ha (t, b) (List.mem_filterMap.mpr ⟨t, mem_allTesters t, by simp [hb]⟩) _ hm rfl
  · rintro ⟨hp, hn, ha, ht⟩
    refine ⟨⟨by simpa using hp, nodup_laneTags _, hn, fun k hk k' hk' he => ?_⟩, fun t => count t ▸ ht t⟩
    obtain ⟨t, -, hb⟩ := List.mem_filterMap.mp hk
    obtain ⟨b, tag, rfl⟩ := Option.map_eq_some_iff.mp hb
    exact ha t b tag (he ▸ hk')

namespace Keyed

variable {lanes : Vector Lane 14} {q q' : List (Tester × Byte)} {v v' : Option (Tester × Byte)}

theorem start : Keyed (Vector.replicate 14 .free) [] none := by
  refine ⟨by decide, .nil, fun t b hb => ?_, fun t => ?_⟩ <;> simp_all [tagOfLane, Lane.tag?]

/-- Requests leave the queue or the slot. -/
theorem fewer (h : Keyed lanes q v) (hq : q'.Sublist q) (hv : v' = v ∨ v' = none) : Keyed lanes q' v' := by
  have sub : (q' ++ v'.toList).Sublist (q ++ v.toList) := by
    refine hq.append ?_
    rcases hv with rfl | rfl
    · exact .refl _
    · exact List.nil_sublist _
  refine ⟨?_, h.nodup.sublist sub, fun t b hb hm => h.apart t b hb (sub.subset hm), fun t => ?_⟩
  · exact (Nat.add_le_add_right hq.length_le _).trans h.places
  · exact (Nat.add_le_add_right hq.countP_le _).trans (h.ofTester t)

/-- A lane ends its assembly, or goes on with it. -/
theorem setLane (h : Keyed lanes q v) (t : Tester) {l : Lane}
    (hl : l.tag? = none ∨ l.tag? = tagOfLane lanes t) : Keyed (lanes.set t.val l t.isLt) q v := by
  have fewer : ((if l.tag?.isSome then 1 else 0) : Nat) ≤ if (tagOfLane lanes t).isSome then 1 else 0 := by
    rcases hl with hl | hl
    · simp [hl]
    · rw [hl]
  have held := heldPlaces_set lanes t l
  refine ⟨?_, h.nodup, fun u b hb => ?_, fun u => ?_⟩
  · have := h.places
    omega
  · rw [tagOfLane_set] at hb
    split at hb
    · rename_i e
      subst e
      exact h.apart u b ((hl.resolve_left (by simp [hb])) ▸ hb)
    · exact h.apart u b hb
  · rw [tagOfLane_set]
    split
    · rename_i e
      subst e
      exact (Nat.add_le_add_left fewer _).trans (h.ofTester u)
    · exact h.ofTester u

/-- An assembly begins with a tag not in use and a place (R139). -/
theorem begun (h : Keyed lanes q v) {t : Tester} {x : Assembly} (hf : tagOfLane lanes t = none)
    (ht : (t, x.tag) ∉ q ++ v.toList) (hc : q.countP (fun k => k.1 == t) < 4)
    (hp : q.length + heldPlaces lanes < 16) : Keyed (lanes.set t.val (.assembling x) t.isLt) q v := by
  have held := heldPlaces_set lanes t (.assembling x)
  simp only [hf, Lane.tag?, Option.isSome_none, Option.isSome_some, if_true, Bool.false_eq_true,
    if_false] at held
  refine ⟨by omega, h.nodup, fun u b hb => ?_, fun u => ?_⟩
  · rw [tagOfLane_set] at hb
    split at hb
    · rename_i e
      obtain rfl : x.tag = b := Option.some.inj hb
      exact e ▸ ht
    · exact h.apart u b hb
  · rw [tagOfLane_set]
    split
    · rename_i e
      subst e
      simpa [Lane.tag?] using hc
    · exact h.ofTester u

/-- A completed request takes its tag and its place from the lane to the queue (R143). -/
theorem enqueued (h : Keyed lanes q v) {t : Tester} {x : Assembly} (hl : lanes[t] = .assembling x) :
    Keyed (lanes.set t.val .free t.isLt) (q ++ [(t, x.tag)]) v := by
  have tag := tagOfLane_of_assembling hl
  have held := heldPlaces_set lanes t .free
  have free : (Lane.free).tag? = none := rfl
  simp only [tag, free, Option.isSome_none, Option.isSome_some, if_true, Bool.false_eq_true,
    if_false] at held
  have perm : (q ++ [(t, x.tag)] ++ v.toList).Perm ((t, x.tag) :: (q ++ v.toList)) := by
    rw [List.append_assoc]
    exact List.perm_middle
  refine ⟨?_, perm.nodup_iff.mpr (List.nodup_cons.mpr ⟨h.apart t _ tag, h.nodup⟩), fun u b hb hm => ?_,
    fun u => ?_⟩
  · have := h.places
    simp only [List.length_append, List.length_singleton]
    omega
  · rw [tagOfLane_set] at hb
    split at hb
    · simp [free] at hb
    · rename_i hne
      rcases List.mem_cons.mp (perm.mem_iff.mp hm) with he | hm
      · exact hne (congrArg Prod.fst he)
      · exact h.apart u b hb hm
  · have old := h.ofTester u
    rw [tagOfLane_set, List.countP_append, List.countP_singleton]
    by_cases e : u = t
    · subst e
      simpa [free, tag] using old
    · have other : ((t, x.tag).1 == u) = false := by simpa using fun h : t = u => e h.symm
      simpa [e, other] using old

/-- A queued request takes its tag to the service slot (R149). -/
theorem handed {k : Tester × Byte} (h : Keyed lanes q none) (hk : q.Perm (k :: q')) (hq : q'.Sublist q) :
    Keyed lanes q' (some k) := by
  have perm : (q' ++ [k]).Perm q := (List.perm_append_singleton k q').trans hk.symm
  have fewer := h.fewer hq (.inl rfl)
  refine ⟨fewer.places, perm.nodup_iff.mpr (by simpa using h.nodup), fun t b hb hm => ?_, fewer.ofTester⟩
  exact h.apart t b hb (by simpa using perm.mem_iff.mp hm)

end Keyed

/-- A tag not in use is neither queued nor in service (R139). -/
theorem State.not_mem_of_tagInUse {s : State} {t : Tester} {b : Byte} (h : s.tagInUse t b = false) :
    (t, b) ∉ s.delivery.queue.map QueueEntry.key ++ (s.delivery.service.map Service.key).toList := by
  simp only [State.tagInUse, Bool.or_eq_false_iff, List.any_eq_false, Bool.and_eq_true,
    beq_iff_eq] at h
  obtain ⟨⟨-, hq⟩, hv⟩ := h
  simp only [List.mem_append, List.mem_map, not_or, not_exists, not_and]
  refine ⟨fun e he hk => hq e he (Prod.mk.inj hk), fun hm => ?_⟩
  cases hs : s.delivery.service with
  | none => simp [hs] at hm
  | some v =>
    simp only [hs, Option.map_some, Option.toList_some, List.mem_singleton] at hm hv
    obtain ⟨rfl, rfl⟩ := Prod.mk.inj hm
    simp at hv

theorem During.keyed {c : Instr} {a s : State} {d : Debt} (h : During c a d s)
    (ha : Keyed a.memory.lanes (a.delivery.queue.map QueueEntry.key)
      (a.delivery.service.map Service.key)) :
    Keyed s.memory.lanes (s.delivery.queue.map QueueEntry.key) (s.delivery.service.map Service.key) := by
  have kept {f : Service → Service} (hf : ∀ v, (f v).key = v.key) (o : Option Service) :
      (o.map f).map Service.key = o.map Service.key := by
    cases o <;> simp [hf]
  induction h with
  | start => exact ha
  | powerOn | lineReset => exact .start
  | time => simpa using ha
  | settle => exact ha
  | assemble _ t x hl ht hq _ _ _ ih =>
    simp only [State.queueHasPlace, Bool.and_eq_true, decide_eq_true_eq, Config.queuePerTester,
      Config.queueEntries, State.placesHeld_eq] at hq
    refine ih.begun ?_ (State.not_mem_of_tagInUse ht) ?_ (by simpa using hq.2)
    · have free : _ = Lane.free := beq_iff_eq.mp hl
      rw [tagOfLane, free]
      rfl
    · rw [List.countP_map]
      exact hq.1
  | segment _ t x y hl hy _ ih =>
    exact ih.setLane t (.inr ((congrArg some hy.1).trans (tagOfLane_of_assembling hl).symm))
  | dropLane _ t l hl ih =>
    refine ih.setLane t (.inl ?_)
    cases l with
    | assembling x => exact absurd rfl (hl x)
    | free | discarding => rfl
  | standing _ t _ _ _ _ _ _ ih => exact ih.setLane t (.inl rfl)
  | enqueue _ t x e _ hl _ he _ _ ih =>
    have key : e.key = (t, x.tag) := Prod.ext he.1 he.2.1
    simpa [key] using ih.enqueued hl
  | memoryBusLoss _ ih =>
    refine ⟨?_, ih.nodup, fun t b hb => ?_, fun t => ?_⟩
    · have none : heldPlaces (Vector.replicate 14 .free) = 0 := by decide
      have := ih.places
      simp only [State.onMemory_memory, Memory.busLoss, State.onMemory_delivery, none]
      omega
    · simp [Memory.busLoss, tagOfLane, Lane.tag?] at hb
    · simpa [Memory.busLoss, tagOfLane, Lane.tag?] using (Nat.le_add_right _ _).trans (ih.ofTester t)
  | dropEntries _ _ ih | dropClaim _ ih => exact ih.fewer (List.filter_sublist.map _) (.inl rfl)
  | endFencing _ _ _ ih => exact ih.fewer (List.filter_sublist.map _) (.inl rfl)
  | handOver _ e v _ he hv _ _ hs ih =>
    have key : v.key = e.key := Prod.ext hs.1 hs.2.1
    rw [hv] at ih
    simpa [key] using ih.handed ((List.perm_cons_erase he).map _) (List.erase_sublist.map _)
  | service _ f hf _ ih =>
    simp only [State.updateService, State.onDelivery_memory, State.onDelivery_delivery]
    rw [kept fun v => Prod.ext (hf v).1 (hf v).2.1]
    exact ih
  | stageBytes _ v bytes _ _ ih =>
    simp only [State.stageBytes_eq, State.updateService, State.onDelivery_memory,
      State.onDelivery_delivery, State.takeBlocks, State.onMemory_memory, State.onMemory_delivery]
    rw [kept (f := fun v => { v with staged := v.staged ++ bytes }) fun _ => rfl]
    exact ih
  | leave _ _ _ _ _ _ ih => exact ih.fewer (.refl _) (.inr rfl)
  | answer _ _ _ _ _ _ _ _ _ ih => exact ih.fewer (.refl _) (.inr rfl)
  | issueStop _ v cause _ _ _ _ _ ih =>
    rw [(State.issueStopFor_fence _ v cause).2.2.2, (State.issueStopFor_keeps _ v cause).2.2.2.2.2.2.2.2.2.2.2.1]
    simp only
    rw [kept (f := fun v => { v with limit := none }) fun _ => rfl]
    exact ih
  | _ => rename_i ih; simpa [State.freeBlocks, State.takeBlocks, State.stageAnswer] using ih

/-! ## The reply list (R156) -/

theorem length_advanceReplies_le (l : List Answer) : (advanceReplies l).length ≤ l.length := by
  unfold advanceReplies
  split
  · exact le_rfl
  · split <;> simp

theorem During.replies_le {c : Instr} {a s : State} {d : Debt} (h : During c a d s)
    (ha : a.memory.replies.length ≤ 16) : s.memory.replies.length ≤ 16 := by
  induction h with
  | start => exact ha
  | powerOn | lineReset | memoryBusLoss => exact Nat.zero_le _
  | time => simpa using ha
  | settle => exact ha
  | offerSegment _ _ _ _ _ _ ih => exact (length_advanceReplies_le _).trans (by simpa using ih)
  | standing _ _ _ _ _ _ _ hr =>
    simpa [State.stageAnswer, State.takeBlocks, State.freeBlocks, Config.replyAnswers] using hr
  | stageAudit _ _ _ _ hp =>
    simp only [State.canStage, Bool.and_eq_true, decide_eq_true_eq, Config.replyAnswers] at hp
    simpa [State.stageAnswer, State.takeBlocks] using hp.1
  | answer _ _ _ _ _ _ _ hr =>
    simpa [State.stageAnswer, State.takeBlocks, State.freeBlocks, Config.replyAnswers] using hr
  | discardAnswers _ _ ih => exact List.filter_sublist.length_le.trans ih
  | _ => rename_i ih; simpa [State.freeBlocks, State.takeBlocks] using ih

/-! ## Claims that effecting requests name (R139) -/

/-- What holds of every lane without an assembly, of an assembly as it begins and of one as it goes on,
holds of every lane. -/
theorem During.forall_lane {P : Lane → Prop} {c : Instr} {a s : State} {d : Debt} (h : During c a d s)
    (ha : ∀ t : Tester, P a.memory.lanes[t]) (hn : ∀ l, (∀ x, l ≠ .assembling x) → P l)
    (hb : ∀ x : Assembly, x.data.length ≤ x.total → (x.cls.effecting = true → x.claim ≠ noClaim) →
      P (.assembling x))
    (hs : ∀ x y : Assembly, P (.assembling x) → y.total = x.total → y.cls = x.cls → y.claim = x.claim →
      (x.data.length ≤ x.total → y.data.length ≤ y.total) → P (.assembling y)) :
    ∀ t : Tester, P s.memory.lanes[t] := by
  have set {lanes : Vector Lane 14} (hl : ∀ t : Tester, P lanes[t]) (t : Tester) {l : Lane} (h : P l) :
      ∀ u : Tester, P (lanes.set t.val l t.isLt)[u] := by
    intro u
    simp only [Fin.getElem_fin, Vector.getElem_set]
    split
    · exact h
    · exact hl u
  have free : P .free := hn _ nofun
  have replicate : ∀ t : Tester, P (Vector.replicate 14 Lane.free)[t] := fun t => by simpa using free
  induction h with
  | start => exact ha
  | powerOn | lineReset | memoryBusLoss => exact replicate
  | time => simpa using ha
  | settle => exact ha
  | assemble _ t x _ _ _ _ hx hc ih => exact set ih t (hb x hx hc)
  | segment _ t x y hl hy hd ih =>
    exact set ih t (hs x y (hl ▸ ih t) hy.2.1 hy.2.2.1 hy.2.2.2 hd)
  | dropLane _ t l hl ih => exact set ih t (hn l hl)
  | standing _ t _ _ _ _ _ _ ih => exact set ih t free
  | enqueue _ t _ _ _ _ _ _ _ _ ih => exact set ih t free
  | _ =>
    rename_i ih
    simpa [State.freeBlocks, State.takeBlocks, State.stageAnswer] using ih

/-- A request that may not be served without a claim names one (R139). -/
def Named (g : Sys2Proof.Class) (id : ClaimId) : Prop := g.effecting = true → id ≠ noClaim

/-- The assembly of a lane, if there is one, names the claim that it needs. -/
def Lane.Named : Lane → Prop
  | .assembling x => Machine.Named x.cls x.claim
  | _ => True

/-- Requests queued and in service name the claims that they need. -/
def Delivery.Named (q : Delivery) : Prop :=
  (∀ e ∈ q.queue, Machine.Named e.cls e.claim) ∧ ∀ v, q.service = some v → Machine.Named v.cls v.claim

theorem State.effectingNamed_iff (s : State) : s.effectingNamed = true ↔
    (∀ t : Tester, s.memory.lanes[t].Named) ∧ s.delivery.Named := by
  have name (g : Sys2Proof.Class) (id : ClaimId) :
      (!g.effecting || id != noClaim) = true ↔ Machine.Named g id := by
    cases h : g.effecting <;> simp [Machine.Named, h]
  have lanes : s.memory.lanes.toList.all (fun l =>
      match l with
      | .assembling a => !a.cls.effecting || a.claim != noClaim
      | _ => true) = true ↔ ∀ t : Tester, s.memory.lanes[t].Named := by
    rw [List.all_eq_true]
    have each (l : Lane) : (match l with
        | .assembling a => !a.cls.effecting || a.claim != noClaim
        | _ => true) = true ↔ l.Named := by
      cases l with
      | assembling x => exact name x.cls x.claim
      | free | discarding => simp [Lane.Named]
    constructor
    · exact fun h t => (each _).mp (h _ (by simp))
    · intro h l hl
      obtain ⟨i, hi, rfl⟩ := List.mem_iff_getElem.mp hl
      exact (each _).mpr (by simpa using h ⟨i, by simpa using hi⟩)
  have service : (match s.delivery.service with
      | some v => !v.cls.effecting || v.claim != noClaim
      | none => true) = true ↔ ∀ v, s.delivery.service = some v → Machine.Named v.cls v.claim := by
    cases s.delivery.service with
    | none => simp
    | some v => simpa using name v.cls v.claim
  rw [State.effectingNamed, Bool.and_eq_true, Bool.and_eq_true, List.all_eq_true (l := s.delivery.queue)]
  simp only [name]
  exact (and_congr (and_congr lanes Iff.rfl) service).trans and_assoc

theorem Delivery.Named.fewer {q q' : Delivery} (h : q.Named) (hq : ∀ e ∈ q'.queue, e ∈ q.queue)
    (hv : ∀ v, q'.service = some v →
      ∃ w, q.service = some w ∧ v.cls = w.cls ∧ v.claim = w.claim) : q'.Named := by
  refine ⟨fun e he => h.1 e (hq e he), fun v hs => ?_⟩
  obtain ⟨w, hw, hc, hi⟩ := hv v hs
  rw [hc, hi]
  exact h.2 w hw

theorem During.named {c : Instr} {a s : State} {d : Debt} (h : During c a d s)
    (ha : (∀ t : Tester, a.memory.lanes[t].Named) ∧ a.delivery.Named) :
    (∀ t : Tester, s.memory.lanes[t].Named) ∧ s.delivery.Named := by
  have lanes {d : Debt} {s : State} (h : During c a d s) : ∀ t : Tester, s.memory.lanes[t].Named := by
    refine h.forall_lane ha.1 (fun l hl => ?_) (fun x _ hx => hx) fun x y hx _ hc hi _ => ?_
    · cases l with
      | assembling x => exact absurd rfl (hl x)
      | free | discarding => trivial
    · simpa [Lane.Named, Machine.Named, hc, hi] using hx
  have map {f : Service → Service} (hf : ∀ v, (f v).cls = v.cls ∧ (f v).claim = v.claim)
      (o : Option Service) (v : Service) (hv : o.map f = some v) :
      ∃ w, o = some w ∧ v.cls = w.cls ∧ v.claim = w.claim := by
    obtain ⟨w, hw, rfl⟩ := Option.map_eq_some_iff.mp hv
    exact ⟨w, hw, hf w⟩
  refine ⟨lanes h, ?_⟩
  induction h with
  | start => exact ha.2
  | powerOn | lineReset => exact ⟨nofun, nofun⟩
  | time => simpa using ha.2
  | settle => exact ha.2
  | enqueue h t x e _ hl _ he _ _ ih =>
    have named : Machine.Named x.cls x.claim := by simpa [hl, Lane.Named] using lanes h t
    refine ⟨fun y hy => ?_, ih.2⟩
    rcases List.mem_append.mp hy with hy | hy
    · exact ih.1 y hy
    · obtain rfl : y = e := by simpa using hy
      rw [he.2.2.1, he.2.2.2.1]
      exact named
  | dropEntries _ _ ih | dropClaim _ ih =>
    exact ih.fewer (fun _ => List.mem_of_mem_filter) fun v hv => ⟨v, hv, rfl, rfl⟩
  | endFencing _ _ _ ih =>
    exact ih.fewer (fun _ => List.mem_of_mem_filter) fun v hv => ⟨v, hv, rfl, rfl⟩
  | handOver _ e v _ he _ _ _ hs ih =>
    refine ⟨fun y hy => ih.1 y (List.mem_of_mem_erase hy), fun w hw => ?_⟩
    obtain rfl : v = w := Option.some.inj hw
    rw [hs.2.2.1, hs.2.2.2.1]
    exact ih.1 e he
  | service _ f hf _ ih =>
    exact ih.fewer (fun _ h => h) (map (fun v => ⟨(hf v).2.2.1, (hf v).2.2.2.1⟩) _)
  | stageBytes _ v bytes _ _ ih =>
    exact ih.fewer (fun _ h => h) (map (f := fun v => { v with staged := v.staged ++ bytes })
      (fun _ => ⟨rfl, rfl⟩) _)
  | leave _ _ _ _ _ _ ih => exact ih.fewer (fun _ h => h) nofun
  | answer _ _ _ _ _ _ _ _ _ ih => exact ih.fewer (fun _ h => h) nofun
  | issueStop _ v cause _ _ _ _ _ ih =>
    rw [(State.issueStopFor_fence _ v cause).2.2.2]
    exact ih.fewer (fun _ h => h) (map (f := fun v => { v with limit := none })
      (fun _ => ⟨rfl, rfl⟩) _)
  | _ => rename_i ih; simpa using ih

/-- Settles O11: the tags, the reply list and the claims named, each kept by every change. -/
theorem requestsKeyed : Obligations.RequestsKeyed := by
  unfold Obligations.RequestsKeyed
  intro s t ht
  rw [State.queueKeyed_iff, State.queueKeyed_iff, State.effectingNamed_iff, State.effectingNamed_iff]
  simp only [State.repliesBounded, Config.replyAnswers, decide_eq_true_eq]
  refine ⟨fun hs => ?_, fun hs => ?_, fun hs => ?_⟩
  · exact kept_of_during (P := fun s => Keyed s.memory.lanes (s.delivery.queue.map QueueEntry.key)
      (s.delivery.service.map Service.key)) (fun _ _ h => h) (fun _ _ h => h)
      (fun s h => by simpa using h) (fun _ _ _ ha hu => hu.keyed ha) hs ht
  · exact kept_of_during (P := fun s => s.memory.replies.length ≤ 16) (fun _ _ h => h) (fun _ _ h => h)
      (fun s h => by simpa using h) (fun _ _ _ ha hu => hu.replies_le ha) hs ht
  · exact kept_of_during (P := fun s => (∀ t : Tester, s.memory.lanes[t].Named) ∧ s.delivery.Named)
      (fun _ _ h => h) (fun _ _ h => h)
      (fun s h => ⟨by simpa using h.1, by simpa [Delivery.Named] using h.2⟩)
      (fun _ _ _ ha hu => hu.named ha) hs ht

end Sys2Proof.Machine

/-!
PROOF. The block pool is whole (R136, R137): where blocks stand in the controller's queues, what an answer's
segments take over from the reply list, and the count of all blocks.
-/

namespace Sys2Proof.Machine

/-! ## Blocks in the controller's queues (R15, R17, R137) -/

/-- Only answer segments and their echoes hold blocks; a controller that is not enabled holds no frame, and
none is enabled before the image is accepted. -/
structure BusWell (p : Phase) (b : Backbone) : Prop where
  queued : ∀ e ∈ b.txQueue, e.blocks = 0 ∨ e.frame.isSort FrameKind.answerKind = true
  received : ∀ e ∈ b.rxFifo, e.blocks = 0 ∨
    e.echo = true ∧ e.frame.isSort FrameKind.answerKind = true
  quiet : b.mode ≠ .enabled → b.rxFifo = [] ∧ b.txQueue = []
  early : p.unsettled = true → b.mode ≠ .enabled

theorem State.busWell_iff (s : State) :
    s.bus.blocksPlaced = true ∧ s.busQuiet = true ↔ BusWell s.phase s.bus := by
  simp only [Backbone.blocksPlaced, State.busQuiet, Bool.and_eq_true, List.all_eq_true, Bool.or_eq_true,
    beq_iff_eq, List.isEmpty_iff, Bool.not_eq_true', Bool.and_eq_false_iff, beq_eq_false_iff_ne]
  constructor
  · rintro ⟨⟨hq, hr⟩, hm, he⟩
    exact ⟨hq, hr, fun hn => hm.resolve_left hn, fun hu => he.resolve_left (by simp [hu])⟩
  · rintro ⟨hq, hr, hm, he⟩
    refine ⟨⟨hq, hr⟩, or_iff_not_imp_left.mpr hm, ?_⟩
    cases hu : s.phase.unsettled with
    | false => exact .inl rfl
    | true => exact .inr (he hu)

namespace BusWell

variable {p p' : Phase} {b b' : Backbone}

/-- A controller that is not enabled and holds no frame. -/
theorem idle (hm : b.mode ≠ .enabled) (hr : b.rxFifo = []) (hq : b.txQueue = []) : BusWell p b :=
  ⟨by simp [hq], by simp [hr], fun _ => ⟨hr, hq⟩, fun _ => hm⟩

theorem rephase (h : BusWell p b) (hp : p'.unsettled = true → p.unsettled = true) : BusWell p' b :=
  ⟨h.queued, h.received, h.quiet, fun hu => h.early (hp hu)⟩

/-- Frames leave the queues of a controller that stays in its mode. -/
theorem fewer (h : BusWell p b) (hm : b'.mode = b.mode) (hq : ∀ e ∈ b'.txQueue, e ∈ b.txQueue)
    (hr : ∀ e ∈ b'.rxFifo, e ∈ b.rxFifo) : BusWell p b' := by
  refine ⟨fun e he => h.queued e (hq e he), fun e he => h.received e (hr e he), fun hn => ?_,
    fun hu => hm ▸ h.early hu⟩
  obtain ⟨hrx, htx⟩ := h.quiet (hm ▸ hn)
  exact ⟨List.eq_nil_iff_forall_not_mem.mpr fun e he => by simpa [hrx] using hr e he,
    List.eq_nil_iff_forall_not_mem.mpr fun e he => by simpa [htx] using hq e he⟩

/-- Frames join the queues of an enabled controller. -/
theorem more (h : BusWell p b) (hm : b.mode = .enabled) (hm' : b'.mode = .enabled)
    (hq : ∀ e ∈ b'.txQueue, e ∈ b.txQueue ∨ e.blocks = 0 ∨ e.frame.isSort FrameKind.answerKind = true)
    (hr : ∀ e ∈ b'.rxFifo, e ∈ b.rxFifo ∨ e.blocks = 0 ∨
      e.echo = true ∧ e.frame.isSort FrameKind.answerKind = true) : BusWell p b' :=
  ⟨fun e he => (hq e he).elim (h.queued e) id, fun e he => (hr e he).elim (h.received e) id,
    fun hn => absurd hm' hn, fun hu => absurd hm (h.early hu)⟩

end BusWell

/-- A frame joins an enabled controller's transmit queue: without blocks, or an answer segment. -/
theorem State.busWell_joinQueue {s : State} {f : Frame} {n : Nat} (h : BusWell s.phase s.bus)
    (hm : s.bus.mode = .enabled) (hf : n = 0 ∨ f.isSort FrameKind.answerKind = true) :
    BusWell s.phase (s.joinQueue f n).bus := by
  refine h.more hm hm (fun e he => ?_) fun e he => .inl he
  rcases List.mem_append.mp he with he | he
  · exact .inl he
  · obtain rfl : e = ⟨f, n⟩ := by simpa using he
    exact .inr hf

theorem Answer.kind_answerKind (x : Answer) : x.kind.answerKind = true := by
  unfold Answer.kind
  split <;> rfl

theorem During.busWell {c : Instr} {a s : State} {d : Debt} (h : During c a d s)
    (ha : BusWell a.phase a.bus) : BusWell s.phase s.bus := by
  induction h with
  | start => exact ha
  | powerOn | lineReset | busOff => exact .idle nofun rfl rfl
  | held _ k ih => exact ih.rephase nofun
  | reject _ hs ih => exact ih.rephase fun _ => by rw [hs]; rfl
  | settle => exact ha.rephase nofun
  | time => simpa using ha
  | errors _ f hf ih =>
    obtain ⟨hm, hr, hq, -⟩ := hf _
    exact ih.fewer hm (fun e he => hq ▸ he) fun e he => hr ▸ he
  | receive _ f hm _ ih =>
    refine ih.more hm hm (fun e he => .inl he) fun e he => ?_
    rcases List.mem_append.mp he with he | he
    · exact .inl he
    · obtain rfl : e = ⟨f, false, 0⟩ := by simpa using he
      exact .inr (.inl rfl)
  | arbitrate _ _ ih | stopSending _ ih => exact ih.fewer rfl (fun _ h => h) fun _ h => h
  | complete _ i x hm _ hx ih =>
    refine ih.more hm hm (fun e he => .inl (List.mem_of_mem_eraseIdx he)) fun e he => ?_
    rcases List.mem_append.mp he with he | he
    · exact .inl he
    · obtain rfl : e = ⟨x.frame, true, x.blocks⟩ := by simpa using he
      exact .inr ((ih.queued x (List.mem_of_getElem? hx)).imp_right fun hs => ⟨rfl, hs⟩)
  | offerGuard _ _ _ _ _ hm _ ih => exact State.busWell_joinQueue ih hm (.inl rfl)
  | offerTester _ _ _ _ _ hm _ ih => exact State.busWell_joinQueue ih hm (.inl rfl)
  | offerSegment _ x rest hm _ _ ih =>
    refine State.busWell_joinQueue ih hm (.inr ?_)
    simp [Frame.isSort, Frame.kind?, testerFrame, ownFrame, Answer.kind_answerKind]
  | pop _ _ _ _ _ ih => exact ih.fewer rfl (fun _ h => h) fun _ h => List.mem_of_mem_tail h
  | popAnswer _ _ _ _ ih => exact ih.fewer rfl (fun _ h => h) fun _ h => List.mem_of_mem_tail h
  | enable _ k _ hp =>
    refine ⟨fun e he => ?_, nofun, fun hn => absurd rfl hn, fun hu => ?_⟩
    · obtain rfl : e = _ := by simpa [State.joinQueue, Backbone.start] using he
      exact .inl rfl
    · simp [hp, Phase.unsettled] at hu
  | _ => rename_i ih; simpa using ih

/-! ## Blocks of answers (R137, R156) -/

theorem blocksFor_mono {m n : Nat} (h : m ≤ n) : blocksFor m ≤ blocksFor n := by
  unfold blocksFor
  omega

@[simp] theorem blocksBefore_zero (n : Nat) : blocksBefore n 0 = 0 := rfl

/-- The segments assigned so far take no more blocks with one segment more, and never more than all. -/
theorem blocksBefore_mono (n k : Nat) :
    blocksBefore n k ≤ blocksBefore n (k + 1) ∧ blocksBefore n (k + 1) ≤ blocksFor n := by
  have below (m : Nat) : blocksBelow n (min n (58 + 62 * m)) ≤ blocksFor n := by
    unfold blocksBelow blocksFor
    split <;> omega
  refine ⟨?_, below k⟩
  cases k with
  | zero => exact Nat.zero_le _
  | succ k =>
    simp only [blocksBefore, segmentEnd]
    unfold blocksBelow blocksFor
    split <;> split <;> omega

/-- The last segment takes what is left. -/
theorem blocksBefore_last {n k : Nat} (h : segmentCount n ≤ k + 1) :
    blocksBefore n (k + 1) = blocksFor n := by
  have all : n ≤ 58 + 62 * k := by
    unfold segmentCount at h
    split at h <;> omega
  simp [blocksBefore, segmentEnd, blocksBelow, all]

/-- Blocks that staged answers hold. -/
def answerBlocks (l : List Answer) : Nat := (l.map Answer.blocks).sum

/-- The segment that joins the transmit queue takes its blocks over from the reply list (R137). -/
theorem answerBlocks_advance (x : Answer) (rest : List Answer) :
    blocksOfSegment x.data.length x.next + answerBlocks (advanceReplies (x :: rest)) =
      answerBlocks (x :: rest) := by
  obtain ⟨step, all⟩ := blocksBefore_mono x.data.length x.next
  by_cases hlast : x.next + 1 < segmentCount x.data.length
  · simp only [advanceReplies, hlast, if_true, answerBlocks, List.map_cons, List.sum_cons, blocksOfSegment,
      Answer.blocks]
    omega
  · have last := blocksBefore_last (not_lt.mp hlast)
    simp only [advanceReplies, hlast, if_false, answerBlocks, List.map_cons, List.sum_cons,
      blocksOfSegment, Answer.blocks]
    omega

theorem answerBlocks_append (l : List Answer) (x : Answer) :
    answerBlocks (l ++ [x]) = answerBlocks l + x.blocks := by
  simp [answerBlocks]

/-- What the members that a test finds and the others sum up to. -/
theorem sum_filter {α : Type} (f : α → Nat) (p : α → Bool) (l : List α) :
    ((l.filter p).map f).sum + ((l.filter fun x => !p x).map f).sum = (l.map f).sum := by
  rw [← List.sum_append, ← List.map_append]
  exact ((List.filter_append_perm p l).map f).sum_eq

/-! ## Blocks of lanes, of queued entries and of the request in service (R136) -/

/-- Blocks that assemblies hold. -/
def laneBlocks (lanes : Vector Lane 14) : Nat := (lanes.toList.map Lane.blocks).sum

theorem laneBlocks_set (lanes : Vector Lane 14) (t : Tester) (l : Lane) :
    laneBlocks (lanes.set t.val l t.isLt) + lanes[t].blocks = laneBlocks lanes + l.blocks := by
  have split := List.sum_take_add_sum_drop (lanes.toList.map Lane.blocks) t.val
  have get : (lanes.toList.map Lane.blocks).drop t.val =
      lanes[t].blocks :: (lanes.toList.map Lane.blocks).drop (t.val + 1) := by
    rw [List.drop_eq_getElem_cons (by simp)]
    simp
  rw [get, List.sum_cons] at split
  unfold laneBlocks
  rw [Vector.toList_set, List.map_set, List.sum_set, if_pos (by simp)]
  omega

theorem laneBlocks_replicate : laneBlocks (Vector.replicate 14 .free) = 0 := by decide

/-- Blocks that queued entries hold. -/
def entryBlocks (q : List QueueEntry) : Nat := (q.map fun e => blocksFor e.data.length).sum

theorem entryBlocks_append (q : List QueueEntry) (e : QueueEntry) :
    entryBlocks (q ++ [e]) = entryBlocks q + blocksFor e.data.length := by
  simp [entryBlocks]

theorem entryBlocks_erase {q : List QueueEntry} {e : QueueEntry} (h : e ∈ q) :
    entryBlocks q = blocksFor e.data.length + entryBlocks (q.erase e) := by
  unfold entryBlocks
  rw [((List.perm_cons_erase h).map _).sum_eq]
  simp

/-- Blocks of the bytes of the request in service, and with its answer staging. -/
def dataBlocks : Option Service → Nat
  | some v => blocksFor v.data.length
  | none => 0

def serviceBlocks : Option Service → Nat
  | some v => v.blocks
  | none => 0

/-- The count of R136: free blocks and those of every holder number 96, and requests hold at most 88. -/
structure Pool (m : Memory) (q : List QueueEntry) (v : Option Service) (b : Nat) : Prop where
  total : m.free + laneBlocks m.lanes + entryBlocks q + serviceBlocks v + answerBlocks m.replies + b = 96
  requests : laneBlocks m.lanes + entryBlocks q + dataBlocks v ≤ 88

theorem State.pool_iff (s : State) :
    Pool s.memory s.delivery.queue s.delivery.service s.bus.blocks ↔
      s.memory.free + s.heldBlocks = 96 ∧ s.requestBlocks ≤ 88 := by
  have service : s.delivery.serviceBlocks = serviceBlocks s.delivery.service := by
    unfold Delivery.serviceBlocks serviceBlocks
    cases s.delivery.service <;> rfl
  have data : s.requestBlocks =
      laneBlocks s.memory.lanes + entryBlocks s.delivery.queue + dataBlocks s.delivery.service := by
    unfold State.requestBlocks
    cases s.delivery.service <;> rfl
  have held : s.heldBlocks = laneBlocks s.memory.lanes + entryBlocks s.delivery.queue +
      serviceBlocks s.delivery.service + answerBlocks s.memory.replies + s.bus.blocks := by
    rw [← service]
    rfl
  rw [held, data]
  constructor
  · rintro ⟨h1, h2⟩
    exact ⟨by omega, h2⟩
  · rintro ⟨h1, h2⟩
    exact ⟨by omega, h2⟩

theorem dataBlocks_le (v : Option Service) : dataBlocks v ≤ serviceBlocks v := by
  cases v with
  | none => exact le_rfl
  | some v => exact Nat.le_add_right _ _

/-- A request in service that keeps its bytes and its staging keeps its blocks. -/
theorem blocks_map {f : Service → Service} (hf : ∀ v, (f v).data = v.data ∧ (f v).staged = v.staged)
    (v : Option Service) :
    serviceBlocks (v.map f) = serviceBlocks v ∧ dataBlocks (v.map f) = dataBlocks v := by
  cases v with
  | none => exact ⟨rfl, rfl⟩
  | some v => simp [serviceBlocks, dataBlocks, Service.blocks, hf]

/-- Staging takes the blocks by which its bytes outgrow those it has (R152). -/
theorem blocksFor_staged (v : Service) (n : Nat) :
    blocksFor v.staged.length + stagingNeed v n = blocksFor (v.staged.length + n) := by
  have := blocksFor_mono (Nat.le_add_right v.staged.length n)
  unfold stagingNeed
  omega

@[simp] theorem State.joinQueue_blocks (s : State) (f : Frame) (n : Nat) :
    (s.joinQueue f n).bus.blocks = s.bus.blocks + n := by
  simp only [State.joinQueue, State.onBus_bus, Backbone.blocks, List.map_append, List.sum_append,
    List.map_cons, List.map_nil, List.sum_cons, List.sum_nil]
  omega

/-- An assembly has received no more than its total (R138). -/
def Lane.Fits (l : Lane) : Prop := ∀ x, l = .assembling x → x.data.length ≤ x.total

theorem During.lanesFit {c : Instr} {a s : State} {d : Debt} (h : During c a d s)
    (ha : ∀ t : Tester, a.memory.lanes[t].Fits) : ∀ t : Tester, s.memory.lanes[t].Fits := by
  refine h.forall_lane ha (fun l hl x hx => absurd hx (hl x)) (fun x hx _ y hy => ?_)
    fun x y hx _ _ _ hs z hz => ?_
  · obtain rfl : x = y := Lane.assembling.inj hy
    exact hx
  · obtain rfl : y = z := Lane.assembling.inj hz
    exact hs (hx x rfl)

/-- The count stands where what holders return is what others and the free blocks take. -/
theorem Pool.moved {m m' : Memory} {q q' : List QueueEntry} {v v' : Option Service} {b b' : Nat}
    (h : Pool m q v b)
    (ht : m'.free + laneBlocks m'.lanes + entryBlocks q' + serviceBlocks v' + answerBlocks m'.replies + b' =
      m.free + laneBlocks m.lanes + entryBlocks q + serviceBlocks v + answerBlocks m.replies + b)
    (hr : laneBlocks m'.lanes + entryBlocks q' + dataBlocks v' ≤
      laneBlocks m.lanes + entryBlocks q + dataBlocks v) : Pool m' q' v' b' :=
  ⟨ht.trans h.total, hr.trans h.requests⟩

/-- Entries leave the delivery queue and their blocks return (R145). -/
theorem Pool.dropped {s : State} (h : Pool s.memory s.delivery.queue s.delivery.service s.bus.blocks)
    (p : QueueEntry → Bool) :
    Pool (s.dropEntries p).memory (s.dropEntries p).delivery.queue (s.dropEntries p).delivery.service
      (s.dropEntries p).bus.blocks := by
  have split := sum_filter (fun e => blocksFor e.data.length) p s.delivery.queue
  refine h.moved ?_ ?_ <;>
    · simp only [State.dropEntries, State.freeBlocks, State.onMemory_memory, State.onMemory_delivery,
        State.onMemory_bus, State.onDelivery_memory, State.onDelivery_delivery, State.onDelivery_bus,
        entryBlocks]
      omega

/-- The blocks of a frame that leaves the head of the FIFO. -/
theorem State.blocks_of_head {s : State} {e : RxEntry} {rest : List RxEntry} (h : s.bus.rxFifo = e :: rest) :
    s.popHead.bus.blocks + e.blocks = s.bus.blocks := by
  simp only [State.popHead, State.onBus_bus, Backbone.blocks, h, List.tail_cons, List.map_cons,
    List.sum_cons]
  omega

section
variable {c : Instr} {a s : State} {d : Debt}

theorem During.pool {c : Instr} {a s : State} {d : Debt} (h : During c a d s)
    (hb : BusWell a.phase a.bus) (hl : ∀ t : Tester, a.memory.lanes[t].Fits)
    (ha : Pool a.memory a.delivery.queue a.delivery.service a.bus.blocks) :
    Pool s.memory s.delivery.queue s.delivery.service s.bus.blocks := by
  have started : Pool Memory.start [] none Backbone.start.blocks := ⟨by decide, by decide⟩
  induction h with
  | start => exact ha
  | powerOn | lineReset => exact started
  | time => simpa using ha
  | settle => exact ha
  | @errors _ s _ f hf ih =>
    have same : (f s.bus).blocks = s.bus.blocks := by
      simp only [Backbone.blocks, (hf _).2.1, (hf _).2.2.1]
    simpa [same] using ih
  | receive _ f _ _ ih => simpa [Backbone.blocks] using ih
  | arbitrate _ _ ih | stopSending _ ih => exact ih
  | @complete _ s _ i x _ _ hx ih =>
    have moved : ((s.bus.txQueue.eraseIdx i).map fun e => e.blocks).sum + x.blocks =
        (s.bus.txQueue.map fun e => e.blocks).sum := by
      obtain ⟨hi, rfl⟩ := List.getElem?_eq_some_iff.mp hx
      have perm := ((List.getElem_cons_eraseIdx_perm hi).map fun e : TxEntry => e.blocks).sum_eq
      rw [List.map_cons, List.sum_cons] at perm
      omega
    refine ih.moved ?_ le_rfl
    simp only [State.onBus_memory, State.onBus_delivery, State.onBus_bus, Backbone.blocks, List.map_append,
      List.sum_append, List.map_cons, List.map_nil, List.sum_cons, List.sum_nil]
    omega
  | @offerSegment _ s _ x rest _ _ hx ih =>
    have moved := answerBlocks_advance x rest
    rw [← hx] at moved
    refine ih.moved ?_ le_rfl
    simp only [State.onMemory_memory, State.onMemory_delivery, State.onMemory_bus, State.joinQueue_keeps,
      State.joinQueue_blocks]
    omega
  | @pop _ s h e rest he hk ih =>
    have none : e.blocks = 0 :=
      ((h.busWell hb).received e (by simp [he])).resolve_right (by simpa using hk)
    have left := State.blocks_of_head he
    refine ih.moved ?_ le_rfl
    simp only [State.popHead_keeps]
    omega
  | @popAnswer _ s _ e rest he ih =>
    have left := State.blocks_of_head he
    refine ih.moved ?_ le_rfl
    simp only [State.freeBlocks, State.onMemory_memory, State.onMemory_delivery, State.onMemory_bus,
      State.popHead_keeps]
    omega
  | @busOff _ s _ ih =>
    have none : ({ s.bus with mode := .busOff, rxFifo := [], txQueue := [], sending := none } :
      Backbone).blocks = 0 := rfl
    refine ih.moved ?_ le_rfl
    simp only [State.enterBusOff, State.freeBlocks, State.onMemory_memory, State.onMemory_delivery,
      State.onMemory_bus, State.onBus_memory, State.onBus_delivery, State.onBus_bus, none]
    omega
  | @enable _ s h k hm hp ih =>
    have disabled : s.bus.mode ≠ .enabled := hm.elim id fun ⟨hs, he⟩ =>
      he ▸ hb.early (by rw [hs]; rfl)
    obtain ⟨hr, hq⟩ := (h.busWell hb).quiet disabled
    have none : s.bus.blocks = 0 := by simp [Backbone.blocks, hr, hq]
    refine ih.moved ?_ le_rfl
    simp only [State.enableAndJoin_eq, State.onMembership_memory, State.onMembership_delivery,
      State.onMembership_bus, State.joinQueue_keeps, State.joinQueue_blocks, State.onBus_memory,
      State.onBus_delivery, State.onBus_bus, none]
    rfl
  | @assemble _ s _ t x hf _ _ hroom _ _ ih =>
    have lane := laneBlocks_set s.memory.lanes t (.assembling x)
    have free : s.memory.lanes[t].blocks = 0 := by
      rw [show s.memory.lanes[t] = .free from beq_iff_eq.mp hf]
      rfl
    obtain ⟨total, -⟩ := ih
    have data := dataBlocks_le s.delivery.service
    rw [free] at lane
    simp only [Lane.blocks, Config.blockReserve] at lane hroom
    constructor <;>
      · simp only [State.takeBlocks, State.setLane_memory, State.setLane_delivery, State.setLane_bus,
          State.onMemory_memory, State.onMemory_delivery, State.onMemory_bus]
        omega
  | @segment _ s _ t x y hx hy _ ih =>
    have lane := laneBlocks_set s.memory.lanes t (.assembling y)
    simp only [hx, Lane.blocks, hy.2.1] at lane
    refine ih.moved ?_ ?_ <;>
      · simp only [State.setLane_memory, State.setLane_delivery, State.setLane_bus]
        omega
  | @dropLane _ s _ t l hn ih =>
    have lane := laneBlocks_set s.memory.lanes t l
    have none : l.blocks = 0 := by
      cases l with
      | assembling x => exact absurd rfl (hn x)
      | free | discarding => rfl
    refine ih.moved ?_ ?_ <;>
      · simp only [State.freeBlocks, State.setLane_memory, State.setLane_delivery, State.setLane_bus,
          State.onMemory_memory, State.onMemory_delivery, State.onMemory_bus]
        omega
  | @standing _ s _ t x y hx hy hroom _ ih =>
    have lane := laneBlocks_set s.memory.lanes t .free
    have staged : y.blocks = blocksFor y.data.length := by simp [Answer.blocks, hy]
    simp only [hx, Lane.blocks] at lane
    refine ih.moved ?_ ?_ <;>
      · simp only [State.stageAnswer, State.takeBlocks, State.freeBlocks, State.setLane_memory,
          State.setLane_delivery, State.setLane_bus, State.onMemory_memory, State.onMemory_delivery,
          State.onMemory_bus, answerBlocks_append, staged]
        omega
  | @enqueue s h t x e _ hx ht he _ _ ih =>
    have lane := laneBlocks_set s.memory.lanes t .free
    have whole : e.data.length = x.total := by
      rw [he.2.2.2.2]
      exact le_antisymm (h.lanesFit hl t x hx) ht
    simp only [hx, Lane.blocks] at lane
    refine ih.moved ?_ ?_ <;>
      · simp only [State.setLane_memory, State.setLane_delivery, State.setLane_bus,
          State.onDelivery_memory, State.onDelivery_delivery, State.onDelivery_bus, entryBlocks_append,
          whole]
        omega
  | @stageAudit _ s _ t tag data hp ih =>
    simp only [State.canStage, Bool.and_eq_true, decide_eq_true_eq] at hp
    have staged : Answer.blocks ⟨t, tag, .audit, .audit, data, 0⟩ = blocksFor data.length := by
      simp [Answer.blocks]
    refine ih.moved ?_ le_rfl
    simp only [State.stageAudit, State.stageAnswer, State.takeBlocks, State.onMemory_memory,
      State.onMemory_delivery, State.onMemory_bus, answerBlocks_append, staged]
    omega
  | @discardAnswers _ s _ t ih =>
    have split := sum_filter Answer.blocks (fun x => x.tester == t) s.memory.replies
    refine ih.moved ?_ le_rfl
    simp only [State.discardAnswers, State.onMemory_memory, State.onMemory_delivery, State.onMemory_bus,
      answerBlocks, bne]
    omega
  | @memoryBusLoss _ s _ ih =>
    have free : s.memory.busLoss.free =
        s.memory.free + laneBlocks s.memory.lanes + answerBlocks s.memory.replies := rfl
    have lanes : laneBlocks s.memory.busLoss.lanes = 0 := laneBlocks_replicate
    have replies : answerBlocks s.memory.busLoss.replies = 0 := rfl
    refine ih.moved ?_ ?_ <;>
      · simp only [State.onMemory_memory, State.onMemory_delivery, State.onMemory_bus, free, lanes, replies]
        omega
  | dropEntries _ p ih => exact ih.dropped p
  | dropClaim _ ih => exact ih.dropped _
  | endFencing _ _ _ ih => exact ih.dropped _
  | @handOver _ s _ e v _ he hv _ _ hs ih =>
    obtain ⟨-, -, -, -, hdata, hstaged⟩ := hs
    have erased := entryBlocks_erase he
    have blocks : serviceBlocks (some v) = blocksFor e.data.length := by
      simp [serviceBlocks, Service.blocks, hdata, hstaged, blocksFor]
    have data : dataBlocks (some v) = blocksFor e.data.length := by simp [dataBlocks, hdata]
    have none : serviceBlocks s.delivery.service = 0 := by rw [hv]; rfl
    refine ih.moved ?_ ?_ <;>
      · simp only [State.onDelivery_memory, State.onDelivery_delivery, State.onDelivery_bus, blocks, data]
        omega
  | @service _ s _ f hf _ ih =>
    obtain ⟨blocks, data⟩ := blocks_map (fun v => (hf v).2.2.2.2) s.delivery.service
    refine ih.moved ?_ ?_ <;>
      simp only [State.updateService, State.onDelivery_memory, State.onDelivery_delivery,
        State.onDelivery_bus, blocks, data, le_refl]
  | @stageBytes _ s _ v bytes hv hroom ih =>
    have staged := blocksFor_staged v bytes.length
    refine ih.moved ?_ ?_ <;>
      · simp only [State.stageBytes, State.takeBlocks, State.updateService, State.onDelivery_memory,
          State.onDelivery_delivery, State.onDelivery_bus, State.onMemory_memory, State.onMemory_delivery,
          State.onMemory_bus, hv, Option.map_some, serviceBlocks, dataBlocks, Service.blocks,
          List.length_append]
        omega
  | @leave _ s _ v w hv hw _ ih =>
    have blocks : w.blocks = serviceBlocks s.delivery.service := by
      simp [hv, serviceBlocks, Service.blocks, hw]
    refine ih.moved ?_ ?_
    · simp only [State.freeBlocks, State.onDelivery_memory, State.onDelivery_delivery,
        State.onDelivery_bus, State.onMemory_memory, State.onMemory_delivery, State.onMemory_bus, blocks]
      simp only [serviceBlocks]
      omega
    · exact Nat.add_le_add_left (Nat.zero_le _) _
  | @answer _ s _ v bytes y hv _ hroom _ hy ih =>
    have staged := blocksFor_staged v bytes.length
    have answer : y.blocks = blocksFor (v.staged.length + bytes.length) := by
      simp [Answer.blocks, hy]
    have blocks : serviceBlocks s.delivery.service = blocksFor v.data.length + blocksFor v.staged.length := by
      rw [hv]
      rfl
    have none : serviceBlocks none = 0 := rfl
    refine ih.moved ?_ ?_
    · simp only [State.freeBlocks, State.takeBlocks, State.stageAnswer, State.onDelivery_memory,
        State.onDelivery_delivery, State.onDelivery_bus, State.onMemory_memory, State.onMemory_delivery,
        State.onMemory_bus, answerBlocks_append, answer, none]
      omega
    · exact Nat.add_le_add_left (Nat.zero_le _) _
  | @issueStop _ s _ v cause _ _ _ _ _ ih =>
    obtain ⟨blocks, data⟩ := blocks_map (f := fun v => { v with limit := none }) (fun _ => ⟨rfl, rfl⟩)
      s.delivery.service
    refine ih.moved ?_ ?_ <;>
      simp only [State.issueStopFor_keeps, (State.issueStopFor_fence _ v cause).2.2.2, blocks, data, le_refl]
  | _ => rename_i ih; simpa using ih

end

/-- A lane fits just when its test says so. -/
theorem Lane.fits_iff (l : Lane) : l.fits = true ↔ l.Fits := by
  cases l <;> simp [Lane.fits, Lane.Fits]

/-- The pool is whole: the lanes fit, the controller's blocks are placed, and the count stands. -/
theorem State.poolWhole_iff (s : State) : s.poolWhole = true ↔
    (∀ t : Tester, s.memory.lanes[t].Fits) ∧ BusWell s.phase s.bus ∧
      Pool s.memory s.delivery.queue s.delivery.service s.bus.blocks := by
  have lanes : s.memory.lanes.toList.all Lane.fits = true ↔ ∀ t : Tester, s.memory.lanes[t].Fits := by
    rw [List.all_eq_true]
    constructor
    · exact fun h t => (Lane.fits_iff _).mp (h _ (by simp))
    · intro h l hl
      obtain ⟨i, hi, rfl⟩ := List.mem_iff_getElem.mp hl
      exact (Lane.fits_iff _).mpr (by simpa using h ⟨i, by simpa using hi⟩)
  have reserve : s.requestBlocks + 8 ≤ 96 ↔ s.requestBlocks ≤ 88 := by omega
  simp only [State.poolWhole, Bool.and_eq_true, lanes, Config.poolBlocks, Config.blockReserve, beq_iff_eq,
    decide_eq_true_eq, reserve]
  rw [← State.busWell_iff, State.pool_iff]
  tauto

/-- Settles O8: lanes, controller and count are kept by every change; the two numbers are the count's. -/
theorem poolWholeKept : Obligations.PoolWholeKept := by
  unfold Obligations.PoolWholeKept
  simp only [State.poolWhole_iff]
  intro s t hs ht
  have whole := kept_of_during (P := fun s => (∀ t : Tester, s.memory.lanes[t].Fits) ∧
      BusWell s.phase s.bus ∧ Pool s.memory s.delivery.queue s.delivery.service s.bus.blocks)
    (fun _ _ h => h) (fun _ _ h => h) (fun s h => by simpa using h)
    (fun _ _ _ ⟨hl, hb, hp⟩ hu => ⟨hu.lanesFit hl, hu.busWell hb, hu.pool hb hl hp⟩) hs ht
  exact ⟨whole, (State.pool_iff t).mp whole.2.2⟩

end Sys2Proof.Machine

/-!
PROOF. The local view is sound (R74, R75, R77, R81, R83, R85): its order, its places, its records and
reservations, and a free sequence value for the next claim (R96).
-/

namespace Sys2Proof.Machine

/-! ## Records by their ids -/

theorem State.record?_eq_none {s : State} {id : ClaimId} :
    s.record? id = none ↔ ∀ r ∈ s.hold.view, r.id ≠ id := by
  simp [State.record?]

theorem insertRecord_perm (r : Record) (l : List Record) : (insertRecord r l).Perm (r :: l) := by
  induction l with
  | nil => exact .refl _
  | cons x xs ih =>
    unfold insertRecord
    split
    · exact .refl _
    · exact (ih.cons x).trans (.swap r x xs)

theorem mem_insertRecord {r x : Record} {l : List Record} : x ∈ insertRecord r l ↔ x = r ∨ x ∈ l :=
  (insertRecord_perm r l).mem_iff.trans List.mem_cons

@[simp] theorem length_insertRecord (r : Record) (l : List Record) :
    (insertRecord r l).length = l.length + 1 :=
  (insertRecord_perm r l).length_eq

/-- A record of a new id enters an ascending view at its place (R74). -/
theorem ascending_insertRecord {r : Record} {l : List Record} (hn : ∀ x ∈ l, x.id ≠ r.id)
    (h : l.Pairwise fun x y => x.id.toNat < y.id.toNat) :
    (insertRecord r l).Pairwise fun x y => x.id.toNat < y.id.toNat := by
  induction l with
  | nil => exact List.pairwise_singleton _ _
  | cons x xs ih =>
    obtain ⟨hx, hxs⟩ := List.pairwise_cons.mp h
    unfold insertRecord
    split
    · rename_i hlt
      refine List.pairwise_cons.mpr ⟨fun y hy => ?_, h⟩
      rcases List.mem_cons.mp hy with rfl | hy
      · exact hlt
      · exact hlt.trans (hx y hy)
    · rename_i hge
      refine List.pairwise_cons.mpr ⟨fun y hy => ?_, ih (fun y hy => hn y (.tail _ hy)) hxs⟩
      rcases mem_insertRecord.mp hy with rfl | hy
      · have : x.id ≠ y.id := hn x (.head _)
        bv_omega
      · exact hx y hy

/-! ## The next sequence value (R96) -/

/-- The search ends at a free value where one of the values it tries is free. -/
theorem freeSeqFrom_free {free : BitVec 12 → Bool} {n : Nat} {q : BitVec 12}
    (h : ∃ k < n, free (q + BitVec.ofNat 12 k) = true) : free (freeSeqFrom free n q) = true := by
  induction n generalizing q with
  | zero => exact absurd h (by simp)
  | succ n ih =>
    unfold freeSeqFrom
    split
    · assumption
    · rename_i hq
      obtain ⟨k, hk, hf⟩ := h
      cases k with
      | zero => exact absurd hf (by simpa using hq)
      | succ k =>
        refine ih ⟨k, by omega, ?_⟩
        have shift : q + 1 + BitVec.ofNat 12 k = q + BitVec.ofNat 12 (k + 1) := by bv_omega
        rwa [shift]

theorem claimIdOf_inj {d : Domain} {p q : BitVec 12} (h : claimIdOf d p = claimIdOf d q) : p = q := by
  exact (BitVec.append_right_inj _).mp h

theorem homeOf_claimIdOf (d : Domain) (q : BitVec 12) : homeOf (claimIdOf d q) = d.val := by
  have := d.isLt
  simp only [homeOf, claimIdOf]
  rw [BitVec.extractLsb'_append_eq_left]
  simp
  omega

/-- With 24 places at most in use, one of 25 sequence values in a row is free. -/
theorem State.seqFree_nextFreeSeq {s : State}
    (h : s.hold.view.length + s.hold.reservations.length ≤ 24) : s.seqFree s.nextFreeSeq = true := by
  refine freeSeqFrom_free ?_
  by_contra hn
  let ids : List ClaimId := s.hold.view.map Record.id ++ s.hold.reservations.map Reservation.id
  let tried (k : Nat) : ClaimId := claimIdOf s.config.ownDomain (s.hold.nextSeq + BitVec.ofNat 12 k)
  have used : (Finset.range 25).image tried ⊆ ids.toFinset := by
    intro x hx
    obtain ⟨k, hk, rfl⟩ := Finset.mem_image.mp hx
    have taken : s.seqFree (s.hold.nextSeq + BitVec.ofNat 12 k) = false := by
      by_contra hf
      exact hn ⟨k, Finset.mem_range.mp hk, by simpa using hf⟩
    simp only [State.seqFree, Bool.and_eq_false_iff, Option.isNone_eq_false_iff,
      Option.isSome_iff_exists] at taken
    refine List.mem_toFinset.mpr (List.mem_append.mpr ?_)
    rcases taken with ⟨r, hr⟩ | ⟨v, hv⟩
    · exact .inl (List.mem_map.mpr ⟨r, State.record?_mem hr, State.record?_id hr⟩)
    · exact .inr (List.mem_map.mpr ⟨v, List.mem_of_find?_eq_some hv, by simpa using List.find?_some hv⟩)
  have apart : ((Finset.range 25).image tried).card = 25 := by
    rw [Finset.card_image_of_injOn, Finset.card_range]
    intro j hj k hk he
    have := claimIdOf_inj he
    simp only [Finset.coe_range, Set.mem_Iio] at hj hk
    bv_omega
  have few : ids.toFinset.card ≤ 24 := by
    refine (List.toFinset_card_le _).trans ?_
    simpa [ids] using h
  have := Finset.card_le_card used
  omega

/-! ## The view and the reservations (R74 to R85) -/

/-- What the view and the reservations of a guard of a domain keep, in a phase. -/
structure ViewWell (own : Domain) (p : Phase) (h : Hold) : Prop where
  ascending : h.view.Pairwise fun x y => x.id.toNat < y.id.toNat
  sound : ∀ r ∈ h.view, r.sound own = true
  reserved : ∀ v ∈ h.reservations, homeOf v.id = own.val ∧ ∀ r ∈ h.view, r.id ≠ v.id
  places : h.view.length + h.reservations.length ≤ 24
  early : p.unsettled = true → h.view = [] ∧ h.reservations = []

theorem State.viewSound_iff (s : State) :
    s.viewSound = true ↔ ViewWell s.config.ownDomain s.phase s.hold := by
  simp only [State.viewSound, Hold.ascending, State.reservationSound, Config.viewPlaces, Bool.and_eq_true,
    decide_eq_true_eq, List.all_eq_true, beq_iff_eq, Option.isNone_iff_eq_none, State.record?_eq_none,
    Bool.or_eq_true, Bool.not_eq_true', List.isEmpty_iff]
  constructor
  · rintro ⟨⟨⟨⟨ha, hs⟩, hr⟩, hp⟩, he⟩
    exact ⟨ha, hs, hr, hp, fun hu => he.resolve_left (by simp [hu])⟩
  · rintro ⟨ha, hs, hr, hp, he⟩
    refine ⟨⟨⟨⟨ha, hs⟩, hr⟩, hp⟩, ?_⟩
    cases hu : s.phase.unsettled with
    | false => exact .inl rfl
    | true => exact .inr (he hu)

theorem Record.Mild.sound {f : Record → Record} (hf : Record.Mild f) {own : Domain} {r : Record}
    (h : r.sound own = true) : (f r).sound own = true := by
  obtain ⟨hid, -, hc, hs, hp, ho⟩ := hf r
  simp only [Record.sound, Bool.and_eq_true, hid, hc, hs, hp] at h ⊢
  exact ⟨h.1, ho h.2⟩

/-- A mild change of the record of one id is mild for every record. -/
theorem Record.Mild.at {f : Record → Record} (hf : Record.Mild f) (id : ClaimId) :
    Record.Mild fun r => if r.id = id then f r else r := by
  intro r
  dsimp only
  split
  · exact hf r
  · exact ⟨rfl, rfl, rfl, rfl, rfl, fun h => h⟩

namespace ViewWell

variable {own : Domain} {p p' : Phase} {h h' : Hold}

theorem empty (hv : h.view = []) (hr : h.reservations = []) : ViewWell own p h :=
  ⟨by simp [hv], by simp [hv], by simp [hr], by simp [hv, hr], fun _ => ⟨hv, hr⟩⟩

theorem rephase (w : ViewWell own p h) (hp : p'.unsettled = true → p.unsettled = true) :
    ViewWell own p' h :=
  ⟨w.ascending, w.sound, w.reserved, w.places, fun hu => w.early (hp hu)⟩

/-- Mild changes of the records, and reservations released. -/
theorem mapped (w : ViewWell own p h) {f : Record → Record} (hf : Record.Mild f)
    (hv : h'.view = h.view.map f) (hr : h'.reservations.Sublist h.reservations) : ViewWell own p h' := by
  refine ⟨?_, fun r hr' => ?_, fun v hv' => ?_, ?_, fun hu => ?_⟩
  · rw [hv, List.pairwise_map]
    exact w.ascending.imp fun hlt => by rwa [(hf _).1, (hf _).1]
  · rw [hv] at hr'
    obtain ⟨x, hx, rfl⟩ := List.mem_map.mp hr'
    exact hf.sound (w.sound x hx)
  · obtain ⟨hh, hd⟩ := w.reserved v (hr.subset hv')
    refine ⟨hh, fun r hr' => ?_⟩
    rw [hv] at hr'
    obtain ⟨x, hx, rfl⟩ := List.mem_map.mp hr'
    rw [(hf x).1]
    exact hd x hx
  · rw [hv, List.length_map]
    exact (Nat.add_le_add_left hr.length_le _).trans w.places
  · obtain ⟨h1, h2⟩ := w.early hu
    exact ⟨by simp [hv, h1], List.eq_nil_of_sublist_nil (h2 ▸ hr)⟩

/-- Records removed and reservations released. -/
theorem fewer (w : ViewWell own p h) (hv : h'.view.Sublist h.view)
    (hr : h'.reservations.Sublist h.reservations) : ViewWell own p h' := by
  refine ⟨w.ascending.sublist hv, fun r hr' => w.sound r (hv.subset hr'), fun v hv' => ?_, ?_, fun hu => ?_⟩
  · obtain ⟨hh, hd⟩ := w.reserved v (hr.subset hv')
    exact ⟨hh, fun r hr' => hd r (hv.subset hr')⟩
  · exact (Nat.add_le_add hv.length_le hr.length_le).trans w.places
  · obtain ⟨h1, h2⟩ := w.early hu
    exact ⟨List.eq_nil_of_sublist_nil (h1 ▸ hv), List.eq_nil_of_sublist_nil (h2 ▸ hr)⟩

/-- A sound record of a new id enters a view with room (R74, R81). -/
theorem created (w : ViewWell own p h) {r : Record} (hr : r.sound own = true)
    (hn : ∀ x ∈ h.view, x.id ≠ r.id) (hd : ∀ v ∈ h.reservations, r.id ≠ v.id)
    (hp : h.view.length + h.reservations.length < 24) (hph : p.unsettled = false)
    (hv : h'.view = insertRecord r h.view) (hres : h'.reservations = h.reservations) :
    ViewWell own p h' := by
  refine ⟨?_, fun x hx => ?_, fun v hv' => ?_, ?_, fun hu => absurd hu (by simp [hph])⟩
  · rw [hv]
    exact ascending_insertRecord hn w.ascending
  · rw [hv] at hx
    rcases mem_insertRecord.mp hx with rfl | hx
    · exact hr
    · exact w.sound x hx
  · rw [hres] at hv'
    obtain ⟨hh, hd'⟩ := w.reserved v hv'
    refine ⟨hh, fun x hx => ?_⟩
    rw [hv] at hx
    rcases mem_insertRecord.mp hx with rfl | hx
    · exact hd v hv'
    · exact hd' x hx
  · rw [hv, hres, length_insertRecord]
    omega

end ViewWell

theorem Hold.busLoss_mild :
    Record.Mild fun r => { r with breakSent := false, cancelSent := false } :=
  fun _ => ⟨rfl, rfl, rfl, rfl, rfl, fun h => h⟩

theorem Record.mild_setOperation (op : OpState) :
    Record.Mild fun r => r.onSponsor fun p => { p with op := op } :=
  fun r => ⟨rfl, rfl, rfl, rfl, by simp [Record.onSponsor], fun h => h⟩

/-- The view that issuing a stop order leaves (R161). -/
theorem State.issueStopFor_hold (s : State) (v : Service) (cause : StopCause) :
    (s.issueStopFor v cause).hold =
      s.hold.updateRecord v.claim fun r => r.onSponsor fun p => { p with op := .stopping } := by
  simp [State.issueStopFor, State.setOperation, State.updateSponsor, State.updateRecord]

/-- A reservation stands for a claim homed here whose id no record holds. -/
theorem ViewWell.of_reservation? {s : State} (w : ViewWell s.config.ownDomain s.phase s.hold)
    {id : ClaimId} {v : Reservation} (h : s.reservation? id = some v) :
    v ∈ s.hold.reservations ∧ v.id = id ∧ ∀ r ∈ s.hold.view, r.id ≠ id := by
  have mem := List.mem_of_find?_eq_some h
  have hid : v.id = id := by simpa using List.find?_some h
  exact ⟨mem, hid, hid ▸ (w.reserved v mem).2⟩

/-- Releasing a reservation that stands makes room (R81). -/
theorem length_release_lt {l : List Reservation} {v : Reservation} (h : v ∈ l) :
    (l.filter fun r => r.id != v.id).length < l.length :=
  List.length_filter_lt_length_iff_exists.mpr ⟨v, h, by simp⟩

theorem During.viewWell {c : Instr} {a s : State} {d : Debt} (h : During c a d s)
    (ha : ViewWell a.config.ownDomain a.phase a.hold) : ViewWell s.config.ownDomain s.phase s.hold := by
  have changed {s : State} (ih : ViewWell s.config.ownDomain s.phase s.hold) (id : ClaimId)
      {f : Record → Record} (hf : Record.Mild f) :
      ViewWell s.config.ownDomain s.phase (s.hold.updateRecord id f) :=
    ih.mapped (hf.at id) rfl (.refl _)
  induction h with
  | start => exact ha
  | powerOn | lineReset => exact .empty rfl rfl
  | held _ k ih => exact ih.rephase nofun
  | reject _ hs ih => exact ih.rephase fun _ => by rw [hs]; rfl
  | settle g _ hs _ =>
    obtain ⟨hv, hr⟩ := ha.early (by rw [hs]; rfl)
    exact .empty hv hr
  | time => simpa using ha
  | enable _ k _ _ ih => simpa using ih
  | update _ id f hf _ _ ih => exact changed ih id hf
  | suspend _ id _ ih =>
    exact changed ih id fun _ => ⟨rfl, rfl, rfl, rfl, by simp [Record.suspend], fun _ => rfl⟩
  | remove _ _ _ ih | removeElsewhere _ _ _ _ ih => exact ih.fewer List.filter_sublist (.refl _)
  | create _ r _ hr hn hh hp _ hph ih =>
    refine ih.created hr (State.record?_eq_none.mp hn) (fun v hv e => ?_)
      (by simpa [State.hasRoom, Config.viewPlaces] using hp) (by rw [hph]; rfl) rfl rfl
    exact hh (e ▸ (ih.reserved v hv).1)
  | createReserved _ r v _ hr hv _ hph ih =>
    obtain ⟨mem, hid, hn⟩ := ih.of_reservation? hv
    have room := length_release_lt mem
    rw [hid] at room
    have released := ih.fewer (h' := (State.releaseReservation _ r.id).hold) (.refl _) List.filter_sublist
    refine released.created hr hn (fun x hx e => ?_) ?_ (by rw [hph]; rfl) rfl rfl
    · simpa [e] using (List.mem_filter.mp hx).2
    · exact (Nat.add_lt_add_left room _).trans_le ih.places
  | @reserve d s _ v hp hv hph ih =>
    have room : s.hold.view.length + s.hold.reservations.length < 24 := by
      simpa [State.hasRoom, Config.viewPlaces] using hp
    have free := State.seqFree_nextFreeSeq room.le
    simp only [State.seqFree, Bool.and_eq_true, Option.isNone_iff_eq_none] at free
    refine ⟨ih.ascending, ih.sound, fun x hx => ?_, ?_, fun hu => absurd hu (by simp [hph, Phase.unsettled])⟩
    · rcases List.mem_append.mp hx with hx | hx
      · exact ih.reserved x hx
      · obtain rfl := List.mem_singleton.mp hx
        rw [hv]
        exact ⟨homeOf_claimIdOf _ _, State.record?_eq_none.mp free.1⟩
    · rw [State.reserve, State.onHold, List.length_append]
      exact room
  | release _ id ih => exact ih.fewer (.refl _) List.filter_sublist
  | holdBusLoss _ ih => exact ih.mapped Hold.busLoss_mild rfl (List.nil_sublist _)
  | issueStop _ v cause _ _ _ _ _ ih =>
    simp only [State.issueStopFor_keeps, State.issueStopFor_hold]
    exact changed ih _ (Record.mild_setOperation .stopping)
  | _ => rename_i ih; simpa using ih

/-! ## Compatible classes (R85) -/

/-- The classes of the view pairwise compatible under a symmetric matrix. -/
structure Agreed (g : Settings) (h : Hold) : Prop where
  symmetric : matrixOk g.matrix = true
  compatible : h.view.Pairwise fun x y => g.compatible x.cls y.cls = true

theorem State.viewCompatible_iff (s : State) :
    s.viewCompatible = true ↔ Agreed s.config s.hold := by
  simp only [State.viewCompatible, Bool.and_eq_true, decide_eq_true_eq]
  exact ⟨fun h => ⟨h.1, h.2⟩, fun h => ⟨h.1, h.2⟩⟩

theorem Class.place_lt {c : Class} (h : c.effecting = true) : Class.place c < 5 := by
  simp only [Class.effecting, Bool.and_eq_true, decide_eq_true_eq] at h
  unfold Class.place
  omega

theorem Agreed.swap {g : Settings} {h : Hold} (w : Agreed g h) {x y : Class} (hx : x.effecting = true)
    (hy : y.effecting = true) : g.compatible x y = g.compatible y x := by
  have sym := w.symmetric
  simp only [matrixOk, List.all_eq_true, List.mem_range, beq_iff_eq] at sym
  exact sym _ (Class.place_lt hx) _ (Class.place_lt hy)

theorem Record.effecting_occupying_of_sound {own : Domain} {r : Record} (h : r.sound own = true) :
    r.cls.effecting = true ∧ r.occupying = true := by
  simp only [Record.sound, Bool.and_eq_true] at h
  obtain ⟨⟨⟨-, he⟩, -⟩, ho⟩ := h
  exact ⟨he, ho⟩

/-- A record related both ways to every record enters a list pairwise related. -/
theorem pairwise_insertRecord {R : Record → Record → Prop} {r : Record} {l : List Record}
    (hr : ∀ x ∈ l, R r x ∧ R x r) (h : l.Pairwise R) : (insertRecord r l).Pairwise R := by
  induction l with
  | nil => exact List.pairwise_singleton _ _
  | cons x xs ih =>
    obtain ⟨hx, hxs⟩ := List.pairwise_cons.mp h
    unfold insertRecord
    split
    · exact List.pairwise_cons.mpr ⟨fun y hy => (hr y hy).1, h⟩
    · refine List.pairwise_cons.mpr ⟨fun y hy => ?_, ih (fun y hy => hr y (.tail _ hy)) hxs⟩
      rcases mem_insertRecord.mp hy with rfl | hy
      · exact (hr x (.head _)).2
      · exact hx y hy

theorem Agreed.mapped {g : Settings} {h h' : Hold} (w : Agreed g h) {f : Record → Record}
    (hf : ∀ r, (f r).cls = r.cls) (hv : h'.view = h.view.map f) : Agreed g h' := by
  refine ⟨w.symmetric, ?_⟩
  rw [hv, List.pairwise_map]
  exact w.compatible.imp fun hc => by rwa [hf, hf]

theorem Agreed.fewer {g : Settings} {h h' : Hold} (w : Agreed g h) (hv : h'.view.Sublist h.view) :
    Agreed g h' :=
  ⟨w.symmetric, w.compatible.sublist hv⟩

/-- A record that conflicts with no occupying record enters a view of occupying records (R85). -/
theorem Agreed.created {s : State} (w : Agreed s.config s.hold) {own : Domain}
    (sound : ∀ r ∈ s.hold.view, r.sound own = true) {r : Record} (hr : r.cls.effecting = true)
    (hx : s.conflicts r.cls = false) :
    Agreed s.config (s.createRecord r).hold := by
  refine ⟨w.symmetric, ?_⟩
  have agrees : ∀ x ∈ s.hold.view, s.config.compatible r.cls x.cls = true ∧
      s.config.compatible x.cls r.cls = true := by
    intro x hm
    obtain ⟨effects, occupies⟩ := Record.effecting_occupying_of_sound (sound x hm)
    simp only [State.conflicts, List.any_eq_true, Bool.and_eq_true, Bool.not_eq_true', not_exists,
      not_and, Bool.eq_false_iff, ne_eq] at hx
    have := not_not.mp (hx x hm occupies)
    exact ⟨this, by rwa [w.swap effects hr]⟩
  exact pairwise_insertRecord agrees w.compatible

theorem matrixOk_of_imageSettings {bs : List Byte} {g : Settings} (h : imageSettings bs = some g) :
    matrixOk g.matrix = true := by
  unfold imageSettings at h
  split at h
  · split at h
    · exact absurd h nofun
    · split at h
      · rename_i hc
        obtain rfl := Option.some.inj h
        simp only [Bool.and_eq_true] at hc
        exact hc.1.1.2
      · exact absurd h nofun
  · exact absurd h nofun

theorem Agreed.empty {g : Settings} {h : Hold} (hm : matrixOk g.matrix = true) (hv : h.view = []) :
    Agreed g h :=
  ⟨hm, by rw [hv]; exact .nil⟩

theorem Agreed.blank : Agreed Settings.blank .start :=
  .empty (by decide) rfl

theorem During.agreed {c : Instr} {a s : State} {d : Debt} (h : During c a d s)
    (hv : ViewWell a.config.ownDomain a.phase a.hold) (ha : Agreed a.config a.hold) :
    Agreed s.config s.hold := by
  have changed {s : State} (ih : Agreed s.config s.hold) (id : ClaimId) {f : Record → Record}
      (hf : Record.Mild f) : Agreed s.config (s.hold.updateRecord id f) :=
    ih.mapped (fun r => (hf.at id r).2.2.1) rfl
  induction h with
  | start => exact ha
  | powerOn | lineReset => exact Agreed.blank
  | settle g _ hs hg =>
    exact .empty (matrixOk_of_imageSettings hg) (hv.early (by rw [hs]; rfl)).1
  | time => simpa using ha
  | update _ id f hf _ _ ih => exact changed ih id hf
  | suspend _ id _ ih =>
    exact ih.mapped (f := fun r => if r.id = id then r.suspend else r) (fun r => by split <;> rfl) rfl
  | remove _ _ _ ih | removeElsewhere _ _ _ _ ih => exact ih.fewer List.filter_sublist
  | create h r _ hr _ _ _ hx _ ih =>
    exact ih.created (h.viewWell hv).sound (Record.effecting_occupying_of_sound hr).1 hx
  | createReserved h r _ _ hr _ hx _ ih =>
    exact Agreed.created (s := State.releaseReservation _ r.id) (ih.fewer (.refl _)) (h.viewWell hv).sound
      (Record.effecting_occupying_of_sound hr).1 hx
  | holdBusLoss _ ih => exact ih.mapped (fun r => (Hold.busLoss_mild r).2.2.1) rfl
  | reserve _ _ _ _ _ ih => exact ih.fewer (.refl _)
  | release _ _ ih => exact ih.fewer (.refl _)
  | issueStop _ v cause _ _ _ _ _ ih =>
    rw [State.issueStopFor_hold, (State.issueStopFor_keeps _ v cause).2.2.2.2.2.2.1]
    exact changed ih _ (Record.mild_setOperation .stopping)
  | _ => rename_i ih; simpa using ih

/-- Settles O10: the view by its parts, each kept by every change. -/
theorem viewSoundKept : Obligations.ViewSoundKept := by
  unfold Obligations.ViewSoundKept
  simp only [State.viewSound_iff, State.viewCompatible_iff]
  refine ⟨fun s t hs ht => ?_, fun s t hs hc ht => ?_⟩
  · exact kept_of_during (P := fun s => ViewWell s.config.ownDomain s.phase s.hold) (fun _ _ h => h)
      (fun _ _ h => h) (fun s h => by simpa using h) (fun _ _ _ ha hu => hu.viewWell ha) hs ht
  · exact (kept_of_during
      (P := fun s => ViewWell s.config.ownDomain s.phase s.hold ∧ Agreed s.config s.hold)
      (fun _ _ h => h) (fun _ _ h => h) (fun s h => by simpa using h)
      (fun _ _ _ ha hu => ⟨hu.viewWell ha.1, hu.agreed ha.1 ha.2⟩) ⟨hs, hc⟩ ht).2

end Sys2Proof.Machine

/-!
PROOF. The queued entries are served (R143): an entry that names a claim names a record of its tester,
homed here, PENDING or HELD; between the change of a record and the removal of its entries (R120) the
command owes that removal.
-/

namespace Sys2Proof.Machine

/-- A claim is homed here, of a tester, PENDING or HELD (R143). -/
def Hold.Serves (h : Hold) (id : ClaimId) (t : Tester) : Prop :=
  ∃ r, (h.view.find? fun r => r.id == id) = some r ∧
    r.sponsor.isSome = true ∧ r.tester = t ∧ r.serving = true

/-- The hold unit serves a queued entry (R143). -/
def Hold.Served (h : Hold) (e : QueueEntry) : Prop := e.claim = noClaim ∨ h.Serves e.claim e.tester

theorem State.serves_iff {s : State} {id : ClaimId} {t : Tester} :
    (s.standing id).serves t = true ↔ s.hold.Serves id t := by
  unfold State.standing State.record? Hold.Serves
  cases (s.hold.view.find? fun r => r.id == id) with
  | none => simp [Standing.serves]
  | some r => cases hp : r.sponsor <;> simp [Standing.serves, Record.serving, hp]

theorem State.queueServed_iff (s : State) :
    s.queueServed = true ↔ ∀ e ∈ s.delivery.queue, s.hold.Served e := by
  simp [State.queueServed, Hold.Served, State.serves_iff]

namespace Hold

variable {h h' : Hold}

/-- A change of the records that keeps who they are for, and what they serve. -/
theorem Served.mapped {e : QueueEntry} (w : h.Served e) {f : Record → Record} (hf : Record.Mild f)
    (hs : ∀ r, (h.view.find? fun r => r.id == e.claim) = some r → r.serving = true →
      (f r).serving = true)
    (hv : h'.view = h.view.map f) : h'.Served e := by
  refine w.imp_right fun ⟨r, hr, hp, ht, hc⟩ => ⟨f r, ?_, ?_, ?_, hs r hr hc⟩
  · have keyed : ((fun r : Record => r.id == e.claim) ∘ f) = fun r => r.id == e.claim :=
      funext fun r => by simp [(hf r).1]
    rw [hv, List.find?_map, keyed, hr]
    rfl
  · rw [(hf r).2.2.2.2.1, hp]
  · rw [(hf r).2.1, ht]

/-- A change of the record of one id, for an entry of it or of another. -/
theorem Served.updated {e : QueueEntry} (w : h.Served e) {id : ClaimId} {f : Record → Record}
    (hf : Record.Mild f)
    (hs : e.claim = id → ∀ r, (h.view.find? fun r => r.id == id) = some r → r.serving = true →
      (f r).serving = true) : (h.updateRecord id f).Served e := by
  refine w.mapped (hf.at id) (fun r hr hc => ?_) rfl
  have hid : r.id = e.claim := by simpa using List.find?_some hr
  split
  · rename_i he
    have same : e.claim = id := hid.symm.trans he
    exact hs same r (same ▸ hr) hc
  · exact hc

/-- The removal of a record leaves every entry of another claim served. -/
theorem Served.removed {e : QueueEntry} (w : h.Served e) {id : ClaimId} (hi : e.claim ≠ id)
    (hv : h'.view = h.view.filter fun r => r.id != id) : h'.Served e := by
  refine w.imp_right fun ⟨r, hr, rest⟩ => ⟨r, ?_, rest⟩
  rw [hv, List.find?_filter, ← hr]
  refine congrArg (List.find? · h.view) (funext fun x => ?_)
  by_cases hx : x.id = e.claim <;> simp [hx, hi]

theorem find?_insertRecord {r : Record} {l : List Record} {id : ClaimId} (hi : r.id ≠ id) :
    ((insertRecord r l).find? fun x => x.id == id) = l.find? fun x => x.id == id := by
  have apart : (r.id == id) = false := by simpa using hi
  induction l with
  | nil => simp [insertRecord, apart]
  | cons x xs ih =>
    unfold insertRecord
    split
    · rw [List.find?_cons, apart]
    · rw [List.find?_cons, List.find?_cons, ih]

/-- A record of a new id leaves every entry served. -/
theorem Served.created {e : QueueEntry} (w : h.Served e) {r : Record} (hn : ∀ x ∈ h.view, x.id ≠ r.id)
    (hv : h'.view = insertRecord r h.view) : h'.Served e := by
  refine w.imp_right fun ⟨x, hx, rest⟩ => ⟨x, ?_, rest⟩
  have hid : x.id = e.claim := by simpa using List.find?_some hx
  have apart : r.id ≠ e.claim := fun he => hn x (List.mem_of_find?_eq_some hx) (hid.trans he.symm)
  rw [hv, find?_insertRecord apart, hx]

end Hold

/-- A record that was homed elsewhere serves no entry while the own domain stays (R77). -/
theorem ViewWell.not_homedElsewhere {a s : State} (wa : ViewWell a.config.ownDomain a.phase a.hold)
    (ws : ViewWell s.config.ownDomain s.phase s.hold) (hc : s.config = a.config) {id : ClaimId}
    {t : Tester} (hs : s.hold.Serves id t) : ¬ a.homedElsewhere id := by
  rintro ⟨x, hx, hid, hn⟩
  obtain ⟨r, hr, hp, -, -⟩ := hs
  have here := ws.sound r (List.mem_of_find?_eq_some hr)
  have there := wa.sound x hx
  have hrid : r.id = id := by simpa using List.find?_some hr
  simp only [Record.sound, Bool.and_eq_true, beq_iff_eq, hp, hn, hrid, hid, hc, Option.isSome_none,
    eq_comm (a := true), eq_comm (a := false), beq_eq_false_iff_ne] at here there
  exact there.1.2 here.1.2

theorem Record.suspend_mild : Record.Mild Record.suspend :=
  fun _ => ⟨rfl, rfl, rfl, rfl, by simp [Record.suspend], fun _ => rfl⟩

theorem Record.serving_of_replicated {x y : Record} (h : x.replicated = y.replicated) :
    x.serving = y.serving := by
  simp only [Record.replicated, Prod.mk.injEq] at h
  simp only [Record.serving, h.2.2.2.2.1]

theorem config_eq_of_guardRow {c : Instr} {a s : State} {d : Debt} (h : During c a d s)
    (hc : (guardRow c).isSome = true) : s.config = a.config :=
  h.config_eq (by rintro rfl; exact absurd hc nofun) (by rintro rfl; exact absurd hc nofun)
    (by rintro _ rfl; exact absurd hc nofun)

theorem During.served {c : Instr} {a s : State} {d : Debt} (h : During c a d s)
    (hv : ViewWell a.config.ownDomain a.phase a.hold) (ha : ∀ e ∈ a.delivery.queue, a.hold.Served e) :
    ∀ e ∈ s.delivery.queue, d = .claim e.claim ∨ s.hold.Served e := by
  have issued {s : State} {e : QueueEntry} (v : Service) (w : s.hold.Served e) :
      (s.hold.updateRecord v.claim fun r => r.onSponsor fun p => { p with op := .stopping }).Served e :=
    w.updated (Record.mild_setOperation .stopping) fun _ _ _ hc => hc
  induction h with
  | start => exact fun e he => .inr (ha e he)
  | powerOn | lineReset => exact fun e he => absurd he List.not_mem_nil
  | settle => exact fun e he => .inr (ha e he)
  | time => simpa using ha
  | @update d s h id f hf hr hs ih =>
    refine fun e he => (ih e he).imp_right fun w => w.elim .inl fun serves => ?_
    refine Hold.Served.updated (.inr serves) hf fun hi r hr' hc => ?_
    rcases hr with same | guard
    · rwa [Record.serving_of_replicated (same r)]
    · rcases hs with elsewhere | kept
      · exact absurd (hi ▸ elsewhere)
          (hv.not_homedElsewhere (h.viewWell hv) (config_eq_of_guardRow h guard) serves)
      · exact kept r hr' hc
  | suspend _ id _ ih =>
    intro e he
    by_cases hi : e.claim = id
    · exact .inl (hi ▸ rfl)
    · exact .inr (((ih e he).resolve_left nofun).updated Record.suspend_mild fun h => absurd h hi)
  | remove _ id _ ih =>
    intro e he
    by_cases hi : e.claim = id
    · exact .inl (hi ▸ rfl)
    · exact .inr (((ih e he).resolve_left nofun).removed hi rfl)
  | removeElsewhere h id hc hx ih =>
    refine fun e he => .inr (((ih e he).resolve_left nofun).elim .inl fun serves => ?_)
    refine Hold.Served.removed (.inr serves) (fun hi => ?_) rfl
    exact hv.not_homedElsewhere (h.viewWell hv) (config_eq_of_guardRow h hc) serves (hi ▸ hx)
  | create _ r _ _ hn _ _ _ _ ih =>
    exact fun e he => (ih e he).imp_right fun w => w.created (State.record?_eq_none.mp hn) rfl
  | createReserved h r v _ _ hr _ _ ih =>
    obtain ⟨-, -, hn⟩ := (h.viewWell hv).of_reservation? hr
    exact fun e he => (ih e he).imp_right fun w => w.created hn rfl
  | reserve _ _ _ _ _ ih | release _ _ ih => exact ih
  | holdBusLoss _ ih =>
    exact fun e he => (ih e he).imp_right fun w => w.mapped Hold.busLoss_mild (fun _ _ hc => hc) rfl
  | enqueue _ t x e _ _ _ he hs _ ih =>
    obtain ⟨ht, -, -, hc, -⟩ := he
    intro y hy
    rcases List.mem_append.mp hy with hy | hy
    · exact ih y hy
    · obtain rfl := List.mem_singleton.mp hy
      refine .inr (hs.imp (hc.trans ·) fun hs => ?_)
      rw [hc, ht]
      exact State.serves_iff.mp hs
  | dropEntries _ p ih => exact fun e he => ih e (List.mem_of_mem_filter he)
  | dropClaim _ ih =>
    intro e he
    obtain ⟨hm, hp⟩ := List.mem_filter.mp he
    refine .inr ((ih e hm).resolve_left fun hd => ?_)
    simp [Debt.claim.inj hd] at hp
  | endFencing _ _ _ ih =>
    exact fun e he => .inr ((ih e (List.mem_of_mem_filter he)).resolve_left nofun)
  | startFencing _ _ _ ih => exact fun e he => .inr ((ih e he).resolve_left nofun)
  | handOver _ e _ _ _ _ _ _ _ ih => exact fun x hx => ih x (List.mem_of_mem_erase hx)
  | issueStop _ v cause _ _ _ _ _ ih =>
    intro e he
    rw [State.issueStopFor_hold]
    rw [(State.issueStopFor_fence _ v cause).2.2.2] at he
    exact (ih e he).imp_right (issued v)
  | service _ _ _ _ ih | stageBytes _ _ _ _ _ ih => exact ih
  | _ => rename_i ih; simpa using ih

/-- Settles O13: no command ends while it owes the removal of a claim's entries. -/
theorem queueServedKept : Obligations.QueueServedKept := by
  unfold Obligations.QueueServedKept
  intro s t hs hq ht
  rw [State.viewSound_iff] at hs
  rw [State.queueServed_iff] at hq ⊢
  exact (kept_of_during
    (P := fun s => ViewWell s.config.ownDomain s.phase s.hold ∧ ∀ e ∈ s.delivery.queue, s.hold.Served e)
    (fun _ _ h => h) (fun _ _ h => h) (fun s h => by simpa using h)
    (fun _ _ _ ha hu => ⟨hu.viewWell ha.1, fun e he => (hu.served ha.1 ha.2 e he).resolve_left nofun⟩)
    ⟨hs, hq⟩ ht).2

end Sys2Proof.Machine

/-!
PROOF. The shared operations, said once by cases: offers and the loss event (R11, R13, R14, R36), the
trail and the notice queue (R182, R188, R189), and the choices by order (R62, R65, R146, R148).
-/

namespace Sys2Proof.Machine

/-! ## Offers (R11, R13, R14) -/

section
variable {s : State}

theorem State.takesProtocol_iff : s.takesProtocol = true ↔
    s.bus.mode = .enabled ∧ s.revokeWaits = false ∧ s.bus.txQueue.length < 24 := by
  simp [State.takesProtocol, State.roomForProtocol, Config.txEntries, and_assoc]

theorem State.takesStatus_iff : s.takesStatus = true ↔
    s.bus.mode = .enabled ∧ s.bus.testerEntries < 16 ∧
      s.bus.txQueue.length + (if s.revokeWaits then 1 else 0) < 24 := by
  simp [State.takesStatus, State.roomForTester, Config.txEntries, Config.txTesterBound]

theorem State.offerProtocol_of_takes (h : s.takesProtocol = true) (k : FrameKind) (p : List Byte) :
    s.offerProtocol k p = s.joinQueue (guardFrame s.config.ownDomain k p) 0 := if_pos h

/-- A protocol frame that finds no room while the controller is enabled is lost (R13, R36). -/
theorem State.offerProtocol_of_lost (h : s.takesProtocol = false) (hm : s.bus.mode = .enabled)
    (k : FrameKind) (p : List Byte) : s.offerProtocol k p = (s.count Counter.txDropped).lossEvent := by
  simp [State.offerProtocol, h, hm]

theorem State.offerProtocol_of_not_enabled (hm : s.bus.mode ≠ .enabled) (k : FrameKind)
    (p : List Byte) : s.offerProtocol k p = s.count Counter.txDropped := by
  have h : s.takesProtocol = false := by simp [State.takesProtocol, hm]
  simp [State.offerProtocol, h, hm]

theorem State.offerStatus_of_takes (h : s.takesStatus = true) (k : FrameKind) (t : Tester)
    (p : List Byte) : s.offerStatus k t p = s.joinQueue (testerFrame s.config.ownDomain k t p) 0 :=
  if_pos h

theorem State.offerStatus_of_dropped (h : s.takesStatus = false) (k : FrameKind) (t : Tester)
    (p : List Byte) : s.offerStatus k t p = s.count Counter.txDropped := by
  simp [State.offerStatus, h]

/-! ## The loss event (R36) -/

theorem Clearing.toComplete_uncovered (c : Clearing) : c.uncovered.toComplete = c.toComplete := by
  cases h : c.progress <;> simp [Clearing.uncovered, Clearing.toComplete, h]

/-- A frame that waits is still to complete. -/
theorem State.revokeWaits_of_none_toComplete (h : s.membership.outstanding.any Clearing.toComplete = false) :
    s.revokeWaits = false := by
  simp only [State.revokeWaits, List.any_eq_false] at h ⊢
  intro c hc
  have done := h c hc
  cases hp : c.progress <;> simp_all [Clearing.toComplete]

/-- The membership unit at a loss event of a MEMBER, before it offers anything (R36). -/
def State.resynced (s : State) : State :=
  s.onMembership fun m => { m with state := .resync, outstanding := m.outstanding.map Clearing.uncovered }

theorem State.resynced_any_toComplete :
    s.resynced.membership.outstanding.any Clearing.toComplete =
      s.membership.outstanding.any Clearing.toComplete := by
  simp [State.resynced, List.any_map, Function.comp_def, Clearing.toComplete_uncovered]

theorem State.lossEvent_of_member (h : s.membership.state = .member) :
    s.lossEvent =
      if s.membership.outstanding.any Clearing.toComplete then s.resynced
      else s.resynced.offerRevoke .resync := by
  rw [← State.resynced_any_toComplete]
  simp only [State.lossEvent, h]
  rfl

theorem State.lossEvent_of_offline (h : s.membership.state = .offline) : s.lossEvent = s := by
  simp [State.lossEvent, h]

theorem State.lossEvent_of_joining (h : s.membership.state = .joining ∨ s.membership.state = .resync) :
    s.lossEvent =
      s.onMembership fun m => { m with outstanding := m.outstanding.map Clearing.uncovered } := by
  rcases h with h | h <;> simp [State.lossEvent, h]

/-! ## Offering REVOKE_DOMAIN (R13, R35) -/

theorem State.offerRevoke_of_room (hm : s.bus.mode = .enabled) (hw : s.revokeWaits = false)
    (hr : s.bus.txQueue.length < 24) (r : ClearReason) :
    s.offerRevoke r = (s.joinQueue (s.revokeFrame r) 0).addOutstanding ⟨r, .queued⟩ := by
  simp [State.offerRevoke, hm, hw, State.roomForProtocol, Config.txEntries, hr]

theorem State.offerRevoke_of_full (hm : s.bus.mode = .enabled) (hw : s.revokeWaits = false)
    (hr : 24 ≤ s.bus.txQueue.length) (r : ClearReason) :
    s.offerRevoke r = s.addOutstanding ⟨r, .waiting⟩ := by
  simp [State.offerRevoke, hm, hw, State.roomForProtocol, Config.txEntries, Nat.not_lt.mpr hr]

theorem State.offerRevoke_state (r : ClearReason) :
    (s.offerRevoke r).membership.state = s.membership.state := by
  unfold State.offerRevoke
  split
  · rfl
  · split
    · rfl
    · split <;> rfl

/-- What a loss event of a MEMBER leaves (R36). -/
theorem State.lossEvent_member_effect (h : s.membership.state = .member) :
    s.lossEvent.membership.state = .resync ∧
    (s.membership.outstanding.any Clearing.toComplete = true → s.lossEvent = s.resynced) ∧
    (s.membership.outstanding.any Clearing.toComplete = false → s.bus.mode = .enabled →
      s.bus.txQueue.length < 24 →
      s.lossEvent = (s.resynced.joinQueue (s.revokeFrame .resync) 0).addOutstanding ⟨.resync, .queued⟩) ∧
    (s.membership.outstanding.any Clearing.toComplete = false → s.bus.mode = .enabled →
      24 ≤ s.bus.txQueue.length → s.lossEvent = s.resynced.addOutstanding ⟨.resync, .waiting⟩) := by
  rw [State.lossEvent_of_member h]
  refine ⟨?_, fun ha => if_pos ha, fun ha hm hr => ?_, fun ha hm hr => ?_⟩
  · split
    · rfl
    · rw [State.offerRevoke_state]
      rfl
  all_goals
    have quiet : s.resynced.revokeWaits = false :=
      State.revokeWaits_of_none_toComplete (State.resynced_any_toComplete.trans ha)
    rw [if_neg (by simp [ha])]
  · exact State.offerRevoke_of_room (s := s.resynced) hm quiet hr .resync
  · exact State.offerRevoke_of_full (s := s.resynced) hm quiet hr .resync

/-- Settles O21: the offers by what they find, the loss event by the membership state. -/
theorem offers : Obligations.Offers := by
  unfold Obligations.Offers
  intro s
  refine ⟨fun k p => ⟨fun hm hw hl => ?_, fun hm h => ?_, fun hm => ?_⟩,
    fun k t p => ⟨fun hm ht hl => ?_, fun h => ?_⟩, State.lossEvent_of_offline,
    State.lossEvent_of_joining, fun h => ?_⟩
  · exact State.offerProtocol_of_takes (State.takesProtocol_iff.mpr ⟨hm, hw, hl⟩) k p
  · refine State.offerProtocol_of_lost (Bool.eq_false_iff.mpr fun ht => ?_) hm k p
    obtain ⟨-, hw, hl⟩ := State.takesProtocol_iff.mp ht
    rcases h with h | h
    · exact absurd h (by simp [hw])
    · omega
  · exact State.offerProtocol_of_not_enabled hm k p
  · exact State.offerStatus_of_takes (State.takesStatus_iff.mpr ⟨hm, ht, hl⟩) k t p
  · exact State.offerStatus_of_dropped (Bool.eq_false_iff.mpr fun ht => h (State.takesStatus_iff.mp ht)) k t p
  · obtain ⟨hs, hc, hq, hw⟩ := State.lossEvent_member_effect h
    refine ⟨hs, hc, fun ha hm hr => ?_, fun ha hm hr => ?_⟩
    · rw [hq ha hm hr]
      exact ⟨rfl, rfl⟩
    · rw [hw ha hm hr]
      exact ⟨rfl, rfl⟩

end

/-! ## The trail and the notices (R182, R188, R189) -/

/-- Settles O24: posting by the trail state, queueing by the room found. -/
theorem trailAndNotices : Obligations.TrailAndNotices := by
  unfold Obligations.TrailAndNotices
  intro s ev u i k d n
  have room : noticeNeedsRoom s.link.notices n = false ↔
      (s.link.notices.length < 8 ∧ (n.plain = false ∨ s.link.notices.countP Notice.plain < 7)) := by
    simp [noticeNeedsRoom, Config.noticePlaces, Config.noticePlain, imp_iff_not_or]
  have index : ∀ j : Fin 512, (j + 1).val = (j.val + 1) % 512 := fun j => Fin.val_add j 1
  have last : ∀ j : Fin 512, j = 511 ↔ j.val = 511 := fun j => Fin.ext_iff
  refine ⟨fun hm => ?_, fun hm => ?_, fun h => ?_, fun h => ?_⟩
  · cases mode : s.trail.mode with
    | recording => simp [State.post, Trail.post, Trail.write, mode, index, last]
    | draining m => simp [State.post, Trail.post, Trail.write, mode, index, last]
    | frozen => exact absurd mode hm
  · have full : saturate16 s.trail.skipped =
        if s.trail.skipped = 0xFFFF#16 then 0xFFFF#16 else s.trail.skipped + 1 := by
      unfold saturate16
      split <;> simp_all
    simp [State.post, Trail.post, hm, full]
  · simp [State.queueNotice, State.onLink, room.mpr h]
  · have needs : noticeNeedsRoom s.link.notices n = true := by
      simpa using mt room.mp h
    have joined : (s.queueNotice n).link =
        { s.link with notices := dropNotice s.link.notices ++ [n], lost := true } := by
      simp [State.queueNotice, needs]
    rw [joined]
    refine ⟨rfl, fun hp => ?_, fun hp => ?_⟩ <;> rw [dropNotice, hp] <;> rfl

/-! ## Choices by order (R62, R65, R148) -/

/-- The choice among the elements in order, where a later one wins only by a higher rank: the first of
highest rank. -/
theorem foldl_better {α : Type} {better : Option α → α → Option α} {rank : α → Nat}
    (start : ∀ e, better none e = some e)
    (next : ∀ b e, better (some b) e = if rank b < rank e then some e else some b) (l : List α) :
    (l.foldl better none = none ↔ l = []) ∧
    ∀ e, l.foldl better none = some e → ∃ before after, l = before ++ e :: after ∧
      (∀ x ∈ before, rank x < rank e) ∧ ∀ x ∈ after, rank x ≤ rank e := by
  induction l using List.reverseRecOn with
  | nil => simp
  | append_singleton l y ih =>
    obtain ⟨hnone, hsome⟩ := ih
    rw [List.foldl_append, List.foldl_cons, List.foldl_nil]
    cases hl : l.foldl better none with
    | none =>
      obtain rfl := hnone.mp hl
      rw [start]
      refine ⟨by simp, fun e he => ⟨[], [], ?_⟩⟩
      simp [Option.some.inj he]
    | some b =>
      obtain ⟨before, after, rfl, hb, ha⟩ := hsome b hl
      rw [next]
      split
      · rename_i hlt
        refine ⟨by simp, fun e he => ⟨before ++ b :: after, [], ?_⟩⟩
        obtain rfl := Option.some.inj he
        refine ⟨rfl, fun x hx => ?_, by simp⟩
        rcases List.mem_append.mp hx with hx | hx
        · exact (hb x hx).trans hlt
        · rcases List.mem_cons.mp hx with rfl | hx
          · exact hlt
          · exact (ha x hx).trans_lt hlt
      · rename_i hge
        refine ⟨by simp, fun e he => ⟨before, after ++ [y], ?_⟩⟩
        obtain rfl := Option.some.inj he
        refine ⟨by simp, hb, fun x hx => ?_⟩
        rcases List.mem_append.mp hx with hx | hx
        · exact ha x hx
        · rw [List.mem_singleton.mp hx]
          exact Nat.not_lt.mp hge

/-- The same among the elements that pass a test. -/
theorem foldl_better_filter {α : Type} {better : Option α → α → Option α} {rank : α → Nat}
    (start : ∀ e, better none e = some e)
    (next : ∀ b e, better (some b) e = if rank b < rank e then some e else some b)
    (p : α → Bool) (l : List α) :
    ((l.filter p).foldl better none = none ↔ ∀ x ∈ l, p x = false) ∧
    ∀ e, (l.filter p).foldl better none = some e → ∃ before after, l = before ++ e :: after ∧
      p e = true ∧ (∀ x ∈ before, p x = true → rank x < rank e) ∧
      ∀ x ∈ after, p x = true → rank x ≤ rank e := by
  obtain ⟨hnone, hsome⟩ := foldl_better start next (l.filter p)
  refine ⟨hnone.trans (by simp), fun e he => ?_⟩
  obtain ⟨before, after, hl, hb, ha⟩ := hsome e he
  obtain ⟨l₁, l₂, rfl, rfl, h₂⟩ := List.filter_eq_append_iff.mp hl
  obtain ⟨l₃, l₄, rfl, h₃, hp, rfl⟩ := List.filter_eq_cons_iff.mp h₂
  refine ⟨l₁ ++ l₃, l₄, by simp, hp, fun x hx hpx => ?_,
    fun x hx hpx => ha x (List.mem_filter.mpr ⟨hx, hpx⟩)⟩
  rcases List.mem_append.mp hx with hx | hx
  · exact hb x (List.mem_filter.mpr ⟨hx, hpx⟩)
  · exact absurd hpx (h₃ x hx)

/-- The greatest rank of the elements that pass a test, or the start. -/
theorem foldl_max {α : Type} (p : α → Prop) [DecidablePred p] (rank : α → Nat) (l : List α) (m : Nat) :
    let top := l.foldl (fun m x => if p x then max m (rank x) else m) m
    m ≤ top ∧ (∀ x ∈ l, p x → rank x ≤ top) ∧ (top = m ∨ ∃ x ∈ l, p x ∧ rank x = top) := by
  induction l generalizing m with
  | nil => simp
  | cons y l ih =>
    intro top
    obtain ⟨hm, hx, htop⟩ := ih (if p y then max m (rank y) else m)
    have step : top = l.foldl (fun m x => if p x then max m (rank x) else m)
      (if p y then max m (rank y) else m) := rfl
    rw [← step] at hm hx htop
    by_cases hy : p y
    · rw [if_pos hy] at hm htop
      refine ⟨(le_max_left _ _).trans hm, fun x hl hp => ?_, ?_⟩
      · rcases List.mem_cons.mp hl with rfl | hl
        · exact (le_max_right _ _).trans hm
        · exact hx x hl hp
      · rcases htop with h | ⟨x, hl, hp, hr⟩
        · rcases max_choice m (rank y) with hc | hc
          · exact .inl (h.trans hc)
          · exact .inr ⟨y, .head _, hy, (h.trans hc).symm⟩
        · exact .inr ⟨x, .tail _ hl, hp, hr⟩
    · rw [if_neg hy] at hm htop
      refine ⟨hm, fun x hl hp => ?_, htop.imp_right fun ⟨x, hl, hp, hr⟩ => ⟨x, .tail _ hl, hp, hr⟩⟩
      rcases List.mem_cons.mp hl with rfl | hl
      · exact absurd hp hy
      · exact hx x hl hp

/-- The domain mask level bounds the mask level of every HELD record homed here, and is one of them or 0
(R62). -/
theorem State.domainMask_spec (s : State) :
    (∀ r ∈ s.hold.view, r.state = .held → r.sponsor ≠ none → s.config.maskLevel r.cls ≤ s.domainMask) ∧
    (s.domainMask = 0 ∨ ∃ r ∈ s.hold.view, r.state = .held ∧ r.sponsor ≠ none ∧
      s.config.maskLevel r.cls = s.domainMask) := by
  obtain ⟨-, hall, hone⟩ := foldl_max (fun r : Record => r.state = .held ∧ r.sponsor.isSome = true)
    (fun r => s.config.maskLevel r.cls) s.hold.view 0
  exact ⟨fun r hr hs hp => hall r hr ⟨hs, Option.isSome_iff_ne_none.mpr hp⟩,
    hone.imp_right fun ⟨r, hr, ⟨hs, hp⟩, he⟩ => ⟨r, hr, hs, Option.isSome_iff_ne_none.mp hp, he⟩⟩

theorem State.standing_ready {s : State} {id : ClaimId} : (s.standing id).ready = true ↔
    ∃ r q, s.standing id = .here r q ∧ r.state = .held ∧ q.ending = false ∧
      (r.paced = false ∨ q.credit = true) := by
  cases h : s.standing id <;> simp [Standing.ready, and_assoc]

theorem State.standing_isHeld {s : State} {id : ClaimId} : (s.standing id).isHeld = true ↔
    ∃ r, s.record? id = some r ∧ r.state = .held := by
  unfold State.standing
  cases s.record? id with
  | none => simp [Standing.isHeld]
  | some r => cases hp : r.sponsor <;> simp [Standing.isHeld, hp]

/-- Settles O25: the two choices are one choice by rank, the free value is O10's, and the mask level is
a maximum. -/
theorem choices : Obligations.Choices := by
  unfold Obligations.Choices
  refine ⟨fun s => (foldl_better_filter (rank := QueueEntry.level) (fun _ => rfl) (fun _ _ => rfl)
      s.eligible s.delivery.queue).2,
    fun s => (foldl_better_filter (rank := QueueEntry.level) (fun _ => rfl) (fun _ _ => rfl)
      s.eligible s.delivery.queue).1,
    fun ps w n => (foldl_better_filter (rank := fun e : Pattern => e.cls.number) (fun _ => rfl)
      (fun _ _ => rfl) (fun e => e.fits w n) ps).2,
    fun ps w n => (foldl_better_filter (rank := fun e : Pattern => e.cls.number) (fun _ => rfl)
      (fun _ _ => rfl) (fun e => e.fits w n) ps).1,
    fun s => State.seqFree_nextFreeSeq, fun s e => ?_, State.domainMask_spec⟩
  simp only [State.eligible, Bool.and_eq_true, Bool.or_eq_true, Option.isNone_iff_eq_none, beq_iff_eq,
    bne_iff_ne, decide_eq_true_eq, Bool.not_eq_true', State.standing_ready, State.standing_isHeld,
    and_assoc, Decidable.or_iff_not_imp_left (a := e.claim = noClaim), ne_eq,
    Decidable.or_iff_not_imp_left (a := e.cls.effecting = false), Bool.not_eq_false]

end Sys2Proof.Machine

/-!
PROOF. Passages: frames too short and rows of another frame (R8), frames that only the request memory or
the admission unit sees (R7, R8, R55, R137), and the tester frames that name a claim (R102, R115, R117,
R121, R122, R132).
-/

namespace Sys2Proof.Machine

/-! ## Every row is a passage of its kind (R7, R8) -/

/-- The command of a tester row is a passage of the row's kind and payloads. -/
theorem exec_of_testerRow {c : Instr} {k : FrameKind} {row : List Byte → Bool}
    (h : testerRow c = some (k, row)) :
    ∃ act : Tester → List Byte → State → State,
      ∀ s : State, exec c s = .next (s.testerPassage k row act).drive := by
  unfold testerRow at h
  split at h
  case h_21 => exact absurd h nofun
  all_goals
    obtain ⟨rfl, rfl⟩ := Prod.mk.inj (Option.some.inj h)
    exact ⟨_, fun s => rfl⟩

/-- The command of a guard row is a passage of the row's kind and frames. -/
theorem exec_of_guardRow {c : Instr} {k : FrameKind} {row : RxEntry → Bool}
    (h : guardRow c = some (k, row)) :
    ∃ act : Domain → RxEntry → State → State,
      ∀ s : State, exec c s = .next (s.guardPassage k row act).drive := by
  unfold guardRow at h
  split at h
  case h_17 => exact absurd h nofun
  all_goals
    obtain ⟨rfl, rfl⟩ := Prod.mk.inj (Option.some.inj h)
    exact ⟨_, fun s => rfl⟩

section
variable {s : State} {e : RxEntry} {rest : List RxEntry}

theorem Frame.tooShort_of_lt {f : Frame} {k : FrameKind} (h : f.payload.length < k.minLength) :
    f.tooShort k = true := by
  simpa [Frame.tooShort] using h

/-- A tester's frame too short for its kind is dropped and counted after its quiet refresh (R8). -/
theorem State.testerPassage_of_short (hp : s.phase = .running) (hf : s.bus.rxFifo = e :: rest)
    {k : FrameKind} {row : List Byte → Bool} {t : Tester} (ht : testerSender s.config k e = some t)
    (hr : row e.frame.payload = true) (hl : e.frame.payload.length < k.minLength)
    (act : Tester → List Byte → State → State) :
    s.testerPassage k row act = (s.afterTesterHead t).count Counter.foreignFrames := by
  simp [State.testerPassage, State.head_of_running s e rest hp hf, ht, hr, Frame.tooShort_of_lt hl,
    State.afterTesterHead]

/-- A head of another sort than a tester row's is left (log entry 1). -/
theorem State.testerPassage_of_other (hp : s.phase = .running) (hf : s.bus.rxFifo = e :: rest)
    {k : FrameKind} {row : List Byte → Bool}
    (h : testerSender s.config k e = none ∨ row e.frame.payload = false)
    (act : Tester → List Byte → State → State) : s.testerPassage k row act = s := by
  rw [State.testerPassage, State.head_of_running s e rest hp hf]
  rcases h with h | h
  · simp [h]
  · cases hs : testerSender s.config k e <;> simp [h, hs]

/-- A guard's frame too short for its kind is dropped and counted (R8). -/
theorem State.guardPassage_of_short (hp : s.phase = .running) (hf : s.bus.rxFifo = e :: rest)
    {k : FrameKind} {row : RxEntry → Bool} {d : Domain} (hd : guardSender s.config e.frame = some d)
    (hk : e.frame.kind? = some k) (hr : row e = true) (hl : e.frame.payload.length < k.minLength)
    (act : Domain → RxEntry → State → State) :
    s.guardPassage k row act = s.popHead.count Counter.foreignFrames := by
  simp [State.guardPassage, State.head_of_running s e rest hp hf, hd, hk, hr, Frame.tooShort_of_lt hl]

/-- A head of another sort than a guard row's is left (log entry 1). -/
theorem State.guardPassage_of_other (hp : s.phase = .running) (hf : s.bus.rxFifo = e :: rest)
    {k : FrameKind} {row : RxEntry → Bool}
    (h : guardSender s.config e.frame = none ∨ e.frame.kind? ≠ some k ∨ row e = false)
    (act : Domain → RxEntry → State → State) : s.guardPassage k row act = s := by
  rw [State.guardPassage, State.head_of_running s e rest hp hf]
  rcases h with h | h | h
  · simp [h]
  all_goals cases hs : guardSender s.config e.frame <;> simp [h, hs]

end

/-- Settles O33: every row is a passage, which drops a frame too short and leaves another's head. -/
theorem framesDropped : Obligations.FramesDropped := by
  unfold Obligations.FramesDropped
  intro c s e rest hp hf
  refine ⟨fun k row hrow => ?_, fun k row hrow => ?_⟩
  · obtain ⟨act, hact⟩ := exec_of_testerRow hrow
    rw [hact]
    exact ⟨fun t ht hr hl => by rw [State.testerPassage_of_short hp hf ht hr hl],
      fun h => by rw [State.testerPassage_of_other hp hf h]⟩
  · obtain ⟨act, hact⟩ := exec_of_guardRow hrow
    rw [hact]
    exact ⟨fun d hd hk hr hl => by rw [State.guardPassage_of_short hp hf hd hk hr hl],
      fun h => by rw [State.guardPassage_of_other hp hf h]⟩

/-! ## Plain passages (R7, R8, R55, R137) -/

theorem State.popHead_of_cons {s : State} {e : RxEntry} {rest : List RxEntry}
    (hf : s.bus.rxFifo = e :: rest) : s.popHead = { s with bus := { s.bus with rxFifo := rest } } := by
  simp [State.popHead, State.onBus, hf]

/-- What a quiet refresh does to the entry of the tester (R55). -/
theorem State.quietRefresh_of_ticket {s : State} {t : Tester} {k : Ticket} (h : s.ticket t = some k) :
    s.quietRefresh t = s.setAdmission t
      ⟨some { k with quiet := s.startTimer (1000 * s.config.timing.testerQuiet) },
        s.admissions[t].lastEnd⟩ := by
  unfold State.quietRefresh State.ticket at *
  rcases ha : s.admissions[t] with ⟨_ | x, c⟩
  · simp [ha] at h
  · simp only [ha, Option.some.injEq] at h
    simp [h]

theorem State.quietRefresh_of_no_ticket {s : State} {t : Tester} (h : s.ticket t = none) :
    s.quietRefresh t = s := by
  unfold State.quietRefresh State.ticket at *
  rcases ha : s.admissions[t] with ⟨_ | x, c⟩
  · rfl
  · simp [ha] at h

/-- Settles O32, by the head of the FIFO. -/
theorem plainPassages : Obligations.PlainPassages := by
  unfold Obligations.PlainPassages
  intro s e rest hp hf
  have head := State.head_of_running s e rest hp hf
  have pop := State.popHead_of_cons hf
  refine ⟨fun he hk => ?_, fun he hk => ?_, fun t he ht hr => ?_, fun t => ⟨fun k hk => ?_, fun hk => ?_⟩⟩
  · have passed : s.passAnswerEcho = s.popHead.freeBlocks e.blocks := by
      simp [State.passAnswerEcho, head, he, hk]
    rw [pop] at passed
    exact congrArg finish passed
  · have passed : s.passStatusEcho = s.popHead := by simp [State.passStatusEcho, head, he, hk]
    rw [pop] at passed
    exact congrArg finish passed
  · have passed : s.passRefreshOnly =
        if refreshCounted s.config e.frame then (s.afterTesterHead t).count Counter.foreignFrames
        else s.afterTesterHead t := by
      simp [State.passRefreshOnly, head, ht, he, hr, State.afterTesterHead]
    refine ⟨fun hc => ?_, fun hc => ?_⟩
    · exact congrArg finish (passed.trans (if_neg (by simp [hc])))
    · exact congrArg finish (passed.trans (if_pos hc))
  · rw [State.afterTesterHead, State.quietRefresh_of_ticket (s := s.popHead) hk, pop]
    rfl
  · rw [State.afterTesterHead, State.quietRefresh_of_no_ticket (s := s.popHead) hk, pop]

/-! ## CONTINUE (R117) -/

section
variable {s : State} {t : Tester} {p : List Byte} {rest : List RxEntry} {r : Record} {q : Sponsor}

/-- Settles O43, by the rows of R117. -/
theorem continuePassage : Obligations.ContinuePassage := by
  unfold Obligations.ContinuePassage
  intro s t p rest r q hh ha hr ht u
  have passed : exec .continuePassage s = .next (u.continueClaim r q).drive :=
    congrArg finish (State.claimFramePassage_of_here hh ha hr ht fun r q s => s.continueClaim r q)
  rw [passed]
  refine ⟨fun h => ?_, fun he hs hc => ?_, fun he hs hc => ?_⟩
  · have row : (q.ending || r.state != .held) = true := by simpa using h
    rw [State.continueClaim, if_pos row]
  all_goals
    simp [State.continueClaim, he, hc, hs]

/-! ## RELEASE and the decision to end (R121, R122) -/

theorem State.decideEnd_of_ending {id : ClaimId} (hr : s.standing id = .here r q)
    (he : q.ending = true) (b : Byte) : s.decideEnd id b = s := by
  simp [State.decideEnd, hr, he]

theorem State.decideEnd_of_here {id : ClaimId} (hr : s.standing id = .here r q)
    (he : q.ending = false) (b : Byte) :
    s.decideEnd id b =
      (s.updateSponsor id fun y => { y with
        ending := true, leaseTimer := none
        window := if undecided r q then none else y.window }).offerProtocol .endClaim
          (claimReasonPayload id b) := by
  simp [State.decideEnd, hr, he]

/-! ## RESUME (R102, R132) -/

/-- The checks of R132 in one chain. -/
theorem State.resumeRefusal_eq (s : State) (r : Record) (q : Sponsor) :
    s.resumeRefusal r q =
      if q.ending = true then some Reason.claimNotHeld
      else if r.state = .pending then some Reason.claimNotHeld
      else if r.state = .held ∨ r.state = .resuming then some Reason.already
      else if s.announcePending r.id = true then some Reason.already
      else if q.decided = true then some Reason.notReady
      else if s.grants r.tester r.cls = false then some Reason.capability
      else if s.membership.state ≠ .member then some Reason.notReady
      else if s.fence.fenced = true then some Reason.fenced
      else if s.conditionsMet r.cls = false then some Reason.condition
      else none := by
  unfold State.resumeRefusal
  cases hs : r.state <;> simp [resumeStateReason, State.resumeRefusalSuspended]

theorem ite_some_eq_none {α : Type} {c : Prop} [Decidable c] {x : α} {y : Option α} :
    (if c then some x else y) = none ↔ ¬ c ∧ y = none := by
  split <;> simp_all

theorem State.resumeRefusal_eq_none (s : State) (r : Record) (q : Sponsor) :
    s.resumeRefusal r q = none ↔
      q.ending = false ∧ r.state = .suspended ∧ s.announcePending r.id = false ∧
      q.decided = false ∧ s.grants r.tester r.cls = true ∧ s.membership.state = .member ∧
      s.fence.fenced = false ∧ s.conditionsMet r.cls = true := by
  rw [State.resumeRefusal_eq]
  simp only [ite_some_eq_none, Bool.not_eq_true, Bool.not_eq_false, ne_eq, not_not]
  cases r.state <;> simp

/-- A RESUME that fails a check is reported with its reason, and one that passes offers its ANNOUNCE. -/
theorem State.resumeClaim_of_refused {x : Byte} (h : s.resumeRefusal r q = some x) :
    s.resumeClaim r q = s.reportClaim r q r.state.code x := by
  simp [State.resumeClaim, h]

theorem State.resumeClaim_of_passed (h : s.resumeRefusal r q = none) :
    s.resumeClaim r q =
      if s.takesProtocol then s.offerProtocol .announce r.announceResume
      else (s.offerProtocol .announce r.announceResume).reportClaim r q ClaimState.suspended.code
        Reason.notReady := by
  simp [State.resumeClaim, h]

/-- A claim frame that fails a check of R115 is answered for its kind. -/
theorem State.claimFrame_of_not_admitted (ha : s.admitted t = false) (k : FrameKind)
    (act : Record → Sponsor → State → State) :
    s.claimFrame k t p act = s.offerResult k t 0x00#8 Reason.notAdmitted (word16At p 0) := by
  simp [State.claimFrame, State.claimFrameRefused, ha]

theorem State.claimFrame_of_not_own (ha : s.admitted t = true)
    (hn : ∀ r q, s.standing (word16At p 0) = .here r q → r.tester ≠ t) (k : FrameKind)
    (act : Record → Sponsor → State → State) :
    s.claimFrame k t p act = s.offerResult k t 0x00#8 Reason.notFound (word16At p 0) := by
  cases hs : s.standing (word16At p 0) with
  | here r q => simp [State.claimFrame, State.claimFrameRefused, ha, hs, hn r q hs]
  | absent => simp [State.claimFrame, State.claimFrameRefused, ha, hs]
  | elsewhere r => simp [State.claimFrame, State.claimFrameRefused, ha, hs]

/-- The four commands of R115 judge their frames by the same two checks. -/
theorem exec_claimFrame {c : Instr} {k : FrameKind}
    (hc : (c = .renewPassage ∧ k = .renew) ∨ (c = .releasePassage ∧ k = .release) ∨
      (c = .resumePassage ∧ k = .resume) ∨ (c = .continuePassage ∧ k = .continueClaim))
    (hh : s.testerHead k t p rest) :
    ∃ act, exec c s = .next ((s.afterTesterHead t).claimFrame k t p act).drive := by
  rcases hc with ⟨rfl, rfl⟩ | ⟨rfl, rfl⟩ | ⟨rfl, rfl⟩ | ⟨rfl, rfl⟩
  all_goals exact ⟨_, congrArg finish (State.testerPassage_every hh _)⟩

/-- Settles O44, by the rows of R122, of R121 and of R132, and the two checks of R115. -/
theorem releaseAndResume : Obligations.ReleaseAndResume := by
  unfold Obligations.ReleaseAndResume
  refine ⟨fun s t p rest r q hh ha hr ht => ?_, fun s id b r q hr => ?_, fun s t p rest r q hh ha hr ht => ?_,
    State.resumeRefusal_eq_none, State.resumeRefusal_eq, fun c k s t p rest hc hh => ?_⟩
  · intro u
    have passed : exec .releasePassage s = .next (u.releaseClaim r q).drive :=
      congrArg finish (State.claimFramePassage_of_here hh ha hr ht fun r q s => s.releaseClaim r q)
    rw [passed]
    exact ⟨fun he => by simp [State.releaseClaim, he], fun he => by simp [State.releaseClaim, he]⟩
  · exact ⟨fun he => State.decideEnd_of_ending hr he b, fun he => State.decideEnd_of_here hr he b⟩
  · intro u
    have passed : exec .resumePassage s = .next (u.resumeClaim r q).drive :=
      congrArg finish (State.claimFramePassage_of_here hh ha hr ht fun r q s => s.resumeClaim r q)
    rw [passed]
    refine ⟨fun x hx => by rw [State.resumeClaim_of_refused hx], fun hn => ?_⟩
    rw [State.resumeClaim_of_passed hn]
    exact ⟨fun hp => by rw [if_pos hp]; rfl, fun hp => by rw [if_neg (by simp [hp])]; rfl⟩
  · intro u
    obtain ⟨act, passed⟩ := exec_claimFrame hc hh
    rw [passed]
    refine ⟨fun ha => ?_, fun ha hn => ?_⟩
    · rw [State.claimFrame_of_not_admitted (by simpa using ha)]
    · rw [State.claimFrame_of_not_own (by simpa using ha) (by simpa using hn)]

end

end Sys2Proof.Machine

/-!
PROOF. Admissions (R45 to R60), FENCE and LIFT frames and the FENCE line (R169, R172, R174).
-/

namespace Sys2Proof.Machine

/-! ## What a tester's frame leaves of the admission table -/

theorem State.admitted_of_grants {s : State} {t : Tester} {c : Sys2Proof.Class}
    (h : s.grants t c = true) : s.admitted t = true := by
  unfold State.grants at h
  unfold State.admitted
  cases hk : s.ticket t with
  | none => simp [hk] at h
  | some k => rfl

theorem State.afterTesterHead_ticket (s : State) (t : Tester) :
    (s.afterTesterHead t).ticket t = (s.ticket t).map fun k =>
      { k with quiet := s.startTimer (1000 * s.config.timing.testerQuiet) } := by
  rw [State.afterTesterHead, State.quietRefresh_ticket, if_pos rfl]
  rfl

/-- A quiet refresh keeps the cause of the last end. -/
theorem State.afterTesterHead_lastEnd (s : State) (t : Tester) :
    (s.afterTesterHead t).admissions[t].lastEnd = s.admissions[t].lastEnd := by
  unfold State.afterTesterHead
  cases h : s.popHead.ticket t with
  | none => rw [State.quietRefresh_of_no_ticket h]; rfl
  | some k =>
    rw [State.quietRefresh_of_ticket h]
    simp [State.setAdmission, State.popHead]

/-! ## ADMIT (R46 to R52) -/

theorem ticketRefusal_eq_none {g : Settings} {t : Tester} {p : List Byte} :
    ticketRefusal g t p = none ↔
      (byteAt p 0 = 1#8 ∧ 1 ≤ (word16At p 18).toNat ∧ (word16At p 18).toNat ≤ 1440) ∧
      ticketPasses g.checkKey (takeZero p 0 36) = true ∧
      word32At p 9 = g.vehicleId ∧ byteAt p 13 = testerAddress t ∧
      word32At p 1 ∉ g.withdrawn ∧ inSet g.ownDomain (domainSetAt p 16) = true := by
  simp only [ticketRefusal, ite_some_eq_none, ticketFormOk, and_assoc,
    Bool.not_eq_true', Bool.not_eq_false, Bool.and_eq_true, beq_iff_eq, decide_eq_true_eq, bne_iff_ne,
    ne_eq, not_not, List.contains_iff_mem, and_true]
  rfl

theorem ticketRefusal_ne_ok {g : Settings} {t : Tester} {p : List Byte} {b : Byte}
    (h : ticketRefusal g t p = some b) : b ≠ Reason.ok := by
  unfold ticketRefusal at h
  split_ifs at h <;> cases h <;> decide

theorem entryResult_eq_ok {x : Option Ticket} {p : List Byte} :
    entryResult x p = Reason.ok ↔ ∀ k, x = some k → k.serial.toNat < (word32At p 1).toNat := by
  cases x with
  | none => simp [entryResult]
  | some k =>
    simp only [entryResult, Option.some.injEq, forall_eq']
    split
    · exact iff_of_true rfl ‹_›
    · rename_i hl
      refine iff_of_false ?_ hl
      split <;> decide

/-- The result of an ADMIT is OK just when every check of R48 and R49 passes. -/
theorem State.judgeTicket_eq_ok {s : State} {t : Tester} {p : List Byte} :
    s.judgeTicket t p = Reason.ok ↔
      ticketRefusal s.config t p = none ∧
        ∀ k, s.ticket t = some k → k.serial.toNat < (word32At p 1).toNat := by
  unfold State.judgeTicket
  cases h : ticketRefusal s.config t p with
  | none => simp [entryResult_eq_ok]
  | some b => simp [ticketRefusal_ne_ok h]

/-- Settles O45, by the result of the judgement. -/
theorem admitPassage : Obligations.AdmitPassage := by
  unfold Obligations.AdmitPassage
  refine ⟨fun s t p rest hh => ?_, fun s t p => ⟨?_, fun hn k hk hl => ?_⟩⟩
  · intro u x ack
    have passed : exec .admitPassage s = .next ((u.applyTicket t p x).offerStatus .admitAck t ack).drive :=
      congrArg finish (State.testerPassage_every hh fun t p s => s.passAdmit t p)
    rw [passed]
    refine ⟨fun hx => ?_, fun hx => ?_, fun ho ha => ?_⟩
    · have detail : u.admitted t = s.admitted t := by simp [u]
      have last : u.admissions[t].lastEnd = s.admissions[t].lastEnd := State.afterTesterHead_lastEnd s t
      have time : u.guardTime = s.guardTime := by simp [u]
      have config : u.config = s.config := by simp [u]
      rw [State.applyTicket, if_pos hx, State.admitTester, State.newTicket, detail, last]
      simp only [State.startTimer, time, config]
      rfl
    · have other : x ≠ Reason.ok := by rw [hx]; decide
      rw [State.applyTicket, if_neg other, if_pos hx]
    · rw [State.applyTicket, if_neg ho, if_neg ha]
      rfl
  · rw [State.judgeTicket_eq_ok, ticketRefusal_eq_none]
    simp only [and_assoc]
  · rw [State.judgeTicket, hn, hk]
    exact if_neg (Nat.not_lt.mpr hl)

/-! ## FENCE and LIFT (R172, R174) -/

section
variable {s : State} {t : Tester} {p : List Byte} {rest : List RxEntry}

theorem State.passFence_of_refused {b : Byte} (h : s.judgeFence t = b) (hb : b ≠ Reason.ok) :
    s.passFence t = s.fenceResult .fence t b := by
  simp only [State.passFence, h, if_neg hb]

theorem State.passFence_of_ok (h : s.judgeFence t = Reason.ok) :
    s.passFence t = (s.takeFenceCause .tester
      { s.fenceIncident .tester with tester := some t }).fenceResult .fence t Reason.ok := by
  simp only [State.passFence, h, if_true]

theorem State.passLift_of_refused {b : Byte} (h : s.judgeLift t = b) (hb : b ≠ Reason.ok) :
    s.passLift t = s.fenceResult .lift t b := by
  simp only [State.passLift, h, if_neg hb]

theorem State.passLift_of_ok (h : s.judgeLift t = Reason.ok) :
    s.passLift t = (s.liftFence t).fenceResult .lift t Reason.ok := by
  simp only [State.passLift, h, if_true]

/-- The steps of R174, as one change of the fence unit with its notice and its entry. -/
theorem State.liftFence_eq (s : State) (t : Tester) :
    s.liftFence t =
      (({ s with fence := { s.fence with
          fenced := false, causes := 0, marker := false
          current := s.fence.current.map (fun i =>
            if i.openFence then { i with status := .closed, outcome := some .lifted } else i) } } :
        State).queueNotice
          ⟨.lifted, s.guardTime, some t, none, noClaim, none, Reason.ok, false⟩).post .lifted
            (some t) none none 0x00#8 := rfl

/-- The FENCE line, by its level before and by the phase (R169). -/
theorem exec_fenceLine (s : State) :
    (s.pins.fenceAsserted = false →
      (s.phase = .running →
        exec .fenceLineAssertion s =
          .next (({ s with pins := { s.pins with fenceAsserted := true } } : State).takeFenceCause .line
            ⟨.fence .line, none, none, none, none, s.guardTime, .opened, none⟩).drive) ∧
      (s.phase ≠ .running →
        exec .fenceLineAssertion s =
          .next ({ s with pins := { s.pins with fenceAsserted := true } } : State).drive)) ∧
    (s.pins.fenceAsserted = true →
      (s.phase = .running →
        exec .fenceLineRelease s = .next ({ s with
          pins := { s.pins with fenceAsserted := false }
          fence := { s.fence with
            causes := s.fence.causes &&& ~~~FenceCause.line.bit } } : State).drive) ∧
      (s.phase ≠ .running →
        exec .fenceLineRelease s =
          .next ({ s with pins := { s.pins with fenceAsserted := false } } : State).drive)) := by
  refine ⟨fun hf => ⟨fun hp => congrArg finish ?_, fun hp => congrArg finish ?_⟩,
    fun hf => ⟨fun hp => congrArg finish ?_, fun hp => congrArg finish ?_⟩⟩
  · exact (if_neg (by simp [hf])).trans (if_pos hp)
  · exact (if_neg (by simp [hf])).trans (if_neg hp)
  · exact (if_pos hf).trans (if_pos hp)
  · exact (if_pos hf).trans (if_neg hp)

/-- Settles O28: the line by its level, FENCE and LIFT by the first check that fails. -/
theorem fenceLineAndFrames : Obligations.FenceLineAndFrames := by
  unfold Obligations.FenceLineAndFrames
  refine ⟨exec_fenceLine, fun s t p rest hh => ?_, fun s t p rest hh => ?_⟩
  · intro u told
    have passed : exec .fenceFramePassage s = .next (u.passFence t).drive :=
      congrArg finish (State.testerPassage_every hh fun t _ s => s.passFence t)
    have judged : u.judgeFence t =
        if s.admitted t = false then Reason.notAdmitted
        else if s.grants t .fence = false then Reason.capability
        else if s.fence.fenced = true ∧ s.fence.hasCause .tester = true then Reason.already
        else Reason.ok := by simp [State.judgeFence, u]
    rw [passed]
    refine ⟨fun ha => ?_, fun ha hg => ?_, fun hg hf hc => ?_, fun hg hfc => ?_⟩
    · rw [State.passFence_of_refused (judged.trans (if_pos ha)) (by decide)]
      rfl
    · rw [State.passFence_of_refused (b := Reason.capability) (by simp [judged, ha, hg]) (by decide)]
      rfl
    · have ha := State.admitted_of_grants hg
      rw [State.passFence_of_refused (b := Reason.already) (by simp [judged, ha, hg, hf, hc]) (by decide)]
      rfl
    · have ha := State.admitted_of_grants hg
      have open_ : ¬(s.fence.fenced = true ∧ s.fence.hasCause .tester = true) := by
        rintro ⟨hf, hc⟩
        simp [hf, hc] at hfc
      have incident : u.fenceIncident .tester =
          ⟨.fence .tester, none, none, none, none, s.guardTime, .opened, none⟩ := by
        simp [State.fenceIncident, u]
      rw [State.passFence_of_ok (by simp [judged, ha, hg, open_]), incident]
      rfl
  · intro u told
    have passed : exec .liftPassage s = .next (u.passLift t).drive :=
      congrArg finish (State.testerPassage_every hh fun t _ s => s.passLift t)
    have judged : u.judgeLift t =
        if s.admitted t = false then Reason.notAdmitted
        else if s.grants t .fence = false then Reason.capability
        else if s.pins.fenceAsserted = true then Reason.lineActive
        else if s.fence.fenced = false then Reason.already
        else Reason.ok := by simp [State.judgeLift, u]
    rw [passed]
    refine ⟨fun ha => ?_, fun ha hg => ?_, fun hg hl => ?_, fun hg hl hf => ?_, fun hg hl hf => ?_⟩
    · rw [State.passLift_of_refused (judged.trans (if_pos ha)) (by decide)]
      rfl
    · rw [State.passLift_of_refused (b := Reason.capability) (by simp [judged, ha, hg]) (by decide)]
      rfl
    · have ha := State.admitted_of_grants hg
      rw [State.passLift_of_refused (b := Reason.lineActive) (by simp [judged, ha, hg, hl]) (by decide)]
      rfl
    · have ha := State.admitted_of_grants hg
      rw [State.passLift_of_refused (b := Reason.already) (by simp [judged, ha, hg, hl, hf]) (by decide)]
      rfl
    · have ha := State.admitted_of_grants hg
      have time : u.guardTime = s.guardTime := by simp [u]
      rw [State.passLift_of_ok (by simp [judged, ha, hg, hl, hf]), State.liftFence_eq, time]
      rfl

end

end Sys2Proof.Machine

/-!
PROOF. Stop orders asked for, issued and settled (R160, R161, R164), and fence causes taken (R170, R171):
what the RESULTs of the requests that end depend on, and what they touch.
-/

namespace Sys2Proof.Machine

/-! ## The RESULT of a request: what it depends on and what it touches (R140) -/

/-- Two states in which the same RESULT is queued or dropped alike. -/
structure State.SameBus (s w : State) : Prop where
  bus : s.bus = w.bus
  membership : s.membership = w.membership
  config : s.config = w.config

namespace State.SameBus

variable {s w : State}

theorem takesStatus (h : s.SameBus w) : s.takesStatus = w.takesStatus := by
  unfold State.takesStatus State.roomForTester State.revokeWaits
  rw [h.bus, h.membership]

theorem offerResult (h : s.SameBus w) (k : FrameKind) (t : Tester) (g r : Byte) (i : ClaimId) :
    (s.offerResult k t g r i).bus = (w.offerResult k t g r i).bus := by
  unfold State.offerResult State.offerStatus
  rw [h.takesStatus]
  split
  · simp [State.joinQueue, h.bus, h.config]
  · simp [h.bus]

theorem requestResult (h : s.SameBus w) (k : FrameKind) (t : Tester) (g r : Byte) (i : ClaimId) :
    (s.requestResult k t g r i).SameBus (w.requestResult k t g r i) :=
  ⟨by simpa [State.requestResult] using h.offerResult k t g r i, by simpa using h.membership,
    by simpa using h.config⟩

theorem requestRevoke (h : s.SameBus w) :
    s.requestRevoke.bus = w.requestRevoke.bus ∧ s.requestRevoke.membership = w.requestRevoke.membership := by
  have waits : s.revokeWaits = w.revokeWaits := by simp only [State.revokeWaits, h.membership]
  have room : s.roomForProtocol = w.roomForProtocol := by simp only [State.roomForProtocol, h.bus]
  have frame : s.revokeFrame .revoked = w.revokeFrame .revoked := by simp only [State.revokeFrame, h.config]
  unfold State.requestRevoke State.offerRevoke
  rw [h.membership, h.bus, waits, room, frame]
  split
  · exact ⟨h.bus, h.membership⟩
  · split
    · exact ⟨h.bus, by simp [h.membership]⟩
    · split
      · exact ⟨h.bus, h.membership⟩
      · split
        · simp [State.joinQueue, State.addOutstanding, h.bus, h.membership]
        · simp [State.addOutstanding, h.bus, h.membership]

end State.SameBus

/-- Raising one counter (R191). -/
def Trail.count (x : Trail) (k : Fin 25) : Trail :=
  { x with counters := x.counters.set k.val (saturate16 x.counters[k]) k.isLt }

/-- The counters that the RESULT of a refused request raises (R13, R14, R140). -/
def Trail.told (takes : Bool) (reason : Byte) (x : Trail) : Trail :=
  let y := if takes then x else x.count Counter.txDropped
  match reasonCounter reason with
  | some k => y.count k
  | none => y

theorem State.requestResult_trail (s : State) (k : FrameKind) (t : Tester) (g r : Byte) (i : ClaimId) :
    (s.requestResult k t g r i).trail = Trail.told s.takesStatus r s.trail := by
  unfold State.requestResult State.offerResult State.offerStatus State.countReason Trail.told
  cases s.takesStatus <;> cases reasonCounter r <;> rfl

theorem Trail.told_counters {x y : Trail} (h : x.counters = y.counters) (takes : Bool) (r : Byte) :
    (Trail.told takes r x).counters = (Trail.told takes r y).counters := by
  unfold Trail.told
  cases takes <;> cases reasonCounter r <;> simp [Trail.count, h]

/-- The trail beside its counters and its capture (R188, R189). -/
def Trail.log (x : Trail) : Vector (Option TrailEntry) 512 × Fin 512 × Bool × TrailMode × BitVec 16 :=
  (x.entries, x.index, x.wrapped, x.mode, x.skipped)

theorem Trail.told_log (takes : Bool) (r : Byte) (x : Trail) :
    (Trail.told takes r x).log = x.log ∧ (Trail.told takes r x).capture = x.capture := by
  unfold Trail.told
  cases takes <;> cases reasonCounter r <;> exact ⟨rfl, rfl⟩

/-! ## A stop order asked for and issued (R160, R161) -/

section
variable {s : State}

theorem State.askStop_of_issued {c : StopCause} {v : Service} (hv : s.delivery.service = some v)
    (he : v.cls.effecting = true) (ho : s.fence.stop = none) : s.askStop c = s.issueStopFor v c := by
  simp [State.askStop, hv, ho, he]

theorem State.askStop_of_not_asked {c : StopCause} {v : Service} (hv : s.delivery.service = some v)
    (h : v.cls.effecting = false ∨ s.fence.stop ≠ none) : s.askStop c = s := by
  unfold State.askStop
  rw [hv]
  cases ho : s.fence.stop with
  | none =>
    have read : v.cls.effecting = false := h.resolve_right (not_not.mpr ho)
    simp [read]
  | some o => rfl

/-- The record of a claim after its operation state is set (R154). -/
theorem State.setOperation_record? (s : State) (id : ClaimId) (op : OpState) :
    (s.setOperation id op).record? id =
      (s.record? id).map fun r => r.onSponsor fun p => { p with op := op } :=
  State.updateRecord_record? s id _ fun _ => rfl

theorem State.record?_congr {s w : State} (h : s.hold = w.hold) (id : ClaimId) :
    s.record? id = w.record? id := by
  simp only [State.record?, h]

theorem State.issueStopFor_record? (s : State) (v : Service) (c : StopCause) :
    (s.issueStopFor v c).record? v.claim =
      (s.record? v.claim).map fun r => r.onSponsor fun p => { p with op := .stopping } := by
  rw [← State.setOperation_record?]
  refine State.record?_congr ?_ _
  rw [State.issueStopFor_hold]
  rfl

theorem State.issueStopFor_current (s : State) (v : Service) (c : StopCause) :
    (s.issueStopFor v c).fence.current = some ⟨.stop c, some v.claim, some v.tester, some v.tag,
      some v.cls, s.guardTime, .opened, none⟩ := by
  have written := (Fence.writeIncident_effect { s.fence with stop := some (s.stopOrderFor v c) }
    ⟨.stop c, some v.claim, some v.tester, some v.tag, some v.cls, s.guardTime, .opened, none⟩).1
  have order : (s.updateService fun v => { v with limit := none }).stopOrderFor v c =
      s.stopOrderFor v c := rfl
  simp only [State.issueStopFor, State.post_keeps, State.queueNotice_keeps, State.writeIncident,
    State.onFence_fence, State.setOperation_keeps, State.updateService_keeps, order]
  exact written

theorem State.issueStopFor_trail (s : State) (v : Service) (c : StopCause) :
    (s.issueStopFor v c).trail =
      (s.post .incident (some v.tester) (some v.claim) (some v.cls) c.code).trail := by
  simp [State.issueStopFor, State.post]

/-! ## A stop settled (R164) -/

/-- A stop settled, before its RESULT (R164, steps 1 to 7). -/
def State.settled (s : State) (o : StopOrder) (v : Service) (x : IncidentOutcome) : State :=
  ((((((s.onFence fun f => { f with stop := none }).withdrawStopNotice).updateIncident fun i =>
    { i with status := .closed, outcome := some x }).onFence fun f => { f with marker := false }).post
      .stopped (some o.tester) (some o.claim) (some o.cls) x.code).leaveSlot v)

theorem State.settleStop_eq (s : State) (o : StopOrder) (v : Service) (x : IncidentOutcome) :
    s.settleStop o v x =
      match settledResult o.cause with
      | some (r, k) =>
        if v.orphaned || o.testerGone then s.settled o v x
        else (s.settled o v x).requestResult k o.tester o.tag r o.claim
      | none => s.settled o v x := rfl

theorem State.settleStop_of_silent {o : StopOrder} {v : Service}
    (h : settledResult o.cause = none ∨ v.orphaned = true ∨ o.testerGone = true) (x : IncidentOutcome) :
    s.settleStop o v x = s.settled o v x := by
  rw [State.settleStop_eq]
  split
  · rename_i hr
    have gone : (v.orphaned || o.testerGone) = true := by simpa [hr] using h
    rw [if_pos gone]
  · rfl

theorem State.settleStop_of_told {o : StopOrder} {v : Service} {r : Byte} {k : FrameKind}
    (hr : settledResult o.cause = some (r, k)) (hv : v.orphaned = false) (ho : o.testerGone = false)
    (x : IncidentOutcome) :
    s.settleStop o v x = (s.settled o v x).requestResult k o.tester o.tag r o.claim := by
  rw [State.settleStop_eq, hr]
  simp [hv, ho]

/-- What a RESULT touches of a settled stop: the transmit queue and the counters. -/
theorem State.settleStop_keeps_settled (s : State) (o : StopOrder) (v : Service) (x : IncidentOutcome) :
    let t := s.settleStop o v x
    let w := s.settled o v x
    t.fence = w.fence ∧ t.link = w.link ∧ t.delivery = w.delivery ∧ t.memory = w.memory ∧ t.hold = w.hold := by
  intro t w
  cases hr : settledResult o.cause with
  | none =>
    have same : t = w := State.settleStop_of_silent (.inl hr) x
    exact ⟨congrArg _ same, congrArg _ same, congrArg _ same, congrArg _ same, congrArg _ same⟩
  | some y =>
    by_cases gone : v.orphaned = true ∨ o.testerGone = true
    · have same : t = w := State.settleStop_of_silent (.inr gone) x
      exact ⟨congrArg _ same, congrArg _ same, congrArg _ same, congrArg _ same, congrArg _ same⟩
    · obtain ⟨hv, ho⟩ := not_or.mp gone
      have told : t = w.requestResult y.2 o.tester o.tag y.1 o.claim :=
        State.settleStop_of_told hr (by simpa using hv) (by simpa using ho) x
      simp [told]

/-- A settled stop before its RESULT, field by field (R164). -/
theorem State.settled_effect (s : State) (o : StopOrder) (v : Service) (x : IncidentOutcome) :
    let w := s.settled o v x
    w.fence.stop = none ∧ w.fence.marker = false ∧ w.fence.prior = s.fence.prior ∧
    w.fence.current = s.fence.current.map (fun i => { i with status := .closed, outcome := some x }) ∧
    w.link.notices = s.link.notices.filter (fun n => !n.ofOrder) ∧
    w.trail = (s.post .stopped (some o.tester) (some o.claim) (some o.cls) x.code).trail ∧
    w.SameBus s := by
  refine ⟨?_, ?_, ?_, ?_, ?_, ?_, ⟨?_, ?_, ?_⟩⟩
  all_goals simp [State.settled, State.withdrawStopNotice, State.updateIncident, State.post]

/-- The record of the claim of an effecting request that left the slot (R154). -/
theorem State.leaveSlot_record? (s : State) {v : Service} (he : v.cls.effecting = true) :
    (s.leaveSlot v).record? v.claim =
      (s.record? v.claim).map fun r => r.onSponsor fun p => { p with op := .idle } := by
  rw [← State.setOperation_record?]
  refine State.record?_congr ?_ _
  rw [State.leaveSlot_eq, if_pos he]
  rfl

/-- Settles O23: an order is asked for, issued and settled as one operation each. -/
theorem stopOrders : Obligations.StopOrders := by
  unfold Obligations.StopOrders
  refine ⟨fun s c v hv => ⟨fun he ho => ?_, State.askStop_of_not_asked hv, fun o x ho => ?_⟩,
    rfl, rfl, rfl, rfl, rfl, rfl, rfl⟩
  · intro t
    have issued : t = s.issueStopFor v c := State.askStop_of_issued hv he ho
    obtain ⟨-, -, stop, delivery⟩ := State.issueStopFor_fence s v c
    rw [issued, stop, delivery, State.issueStopFor_current, State.issueStopFor_record?,
      State.issueStopFor_notices, State.issueStopFor_trail, hv]
    exact ⟨rfl, rfl, rfl, rfl, rfl, ⟨_, rfl⟩, rfl, by simp, by simp, by simp⟩
  · intro t
    obtain ⟨hfence, hlink, hdelivery, hmemory, hhold⟩ := State.settleStop_keeps_settled s o v x
    obtain ⟨stop, marker, prior, current, notices, trail, bus⟩ := State.settled_effect s o v x
    obtain ⟨service, queue, -, free, -, replies⟩ := State.leaveSlot_effect
      (((((s.onFence fun f => { f with stop := none }).withdrawStopNotice).updateIncident fun i =>
        { i with status := .closed, outcome := some x }).onFence fun f => { f with marker := false }).post
          .stopped (some o.tester) (some o.claim) (some o.cls) x.code) v
    have silent (h : settledResult o.cause = none ∨ v.orphaned = true ∨ o.testerGone = true) :
        t = s.settled o v x := State.settleStop_of_silent h x
    have told {r k} (hr : settledResult o.cause = some (r, k)) (hvo : v.orphaned = false)
        (hog : o.testerGone = false) : t = (s.settled o v x).requestResult k o.tester o.tag r o.claim :=
      State.settleStop_of_told hr hvo hog x
    refine ⟨hfence ▸ stop, hfence ▸ marker, hfence ▸ prior, hfence ▸ current, hlink ▸ notices,
      hdelivery ▸ service, ?_, ?_, ?_, fun h => ?_, fun r k hr hvo hog ht => ?_, fun he => ?_,
      fun h => ?_, fun r k hr hvo hog => ?_⟩
    · rw [hdelivery]
      exact queue.trans (by simp)
    · rw [hmemory]
      exact free.trans (by simp)
    · rw [hmemory]
      exact replies.trans (by simp)
    · rw [silent h, bus.bus]
    · have takes : (s.settled o v x).takesStatus = true := bus.takesStatus.trans ht
      rw [told hr hvo hog, State.requestResult, State.countReason_keeps .. |>.2.2.2.2.2.2.2.1,
        State.offerResult, State.offerStatus_of_takes takes]
      simp [State.joinQueue, bus.bus, bus.config]
    · rw [State.record?_congr hhold]
      refine (State.leaveSlot_record? _ he).trans ?_
      simp [State.record?]
    · rw [silent h, trail]
    · rw [told hr hvo hog, State.requestResult_trail, State.requestResult_trail, bus.takesStatus, trail]
      rfl

end

end Sys2Proof.Machine

/-!
PROOF. The entry into FENCED (R171): the request in service that ends, the queued requests answered, and
the fence unit, the trail and the notice after it.
-/

namespace Sys2Proof.Machine

/-! ## The RESULTs of requests that end, in a row (R171) -/

/-- A request that the entry into FENCED ends is told so. -/
def State.tell (w : State) (x : Tester × Byte × ClaimId) : State :=
  w.requestResult .reqFirst x.1 x.2.1 Reason.fenced x.2.2

/-- Two states in which RESULTs are queued or dropped, and counted, alike. -/
structure State.SameTold (s w : State) : Prop extends s.SameBus w where
  counters : s.trail.counters = w.trail.counters

namespace State.SameTold

variable {s w x : State}

theorem refl (s : State) : s.SameTold s := ⟨⟨rfl, rfl, rfl⟩, rfl⟩

theorem trans (h : s.SameTold w) (h' : w.SameTold x) : s.SameTold x :=
  ⟨⟨h.bus.trans h'.bus, h.membership.trans h'.membership, h.config.trans h'.config⟩,
    h.counters.trans h'.counters⟩

theorem tell (h : s.SameTold w) (y : Tester × Byte × ClaimId) : (s.tell y).SameTold (w.tell y) := by
  refine ⟨h.toSameBus.requestResult .., ?_⟩
  rw [State.tell, State.tell, State.requestResult_trail, State.requestResult_trail, h.takesStatus]
  exact Trail.told_counters h.counters _ _

theorem tells (h : s.SameTold w) (l : List (Tester × Byte × ClaimId)) :
    (l.foldl State.tell s).SameTold (l.foldl State.tell w) := by
  induction l generalizing s w with
  | nil => exact h
  | cons y l ih => exact ih (h.tell y)

theorem requestRevoke_counters (h : s.SameTold w) :
    s.requestRevoke.trail.counters = w.requestRevoke.trail.counters := by
  have waits : s.revokeWaits = w.revokeWaits := by simp only [State.revokeWaits, h.membership]
  have room : s.roomForProtocol = w.roomForProtocol := by simp only [State.roomForProtocol, h.bus]
  unfold State.requestRevoke State.offerRevoke
  rw [h.membership, h.bus, waits, room]
  split
  · exact h.counters
  · split
    · exact h.counters
    · split
      · simp [State.count, h.counters]
      · split
        · exact h.counters
        · exact h.counters

end State.SameTold

/-- The tester, the tag and the claim of a queued request. -/
def QueueEntry.named (e : QueueEntry) : Tester × Byte × ClaimId := (e.tester, e.tag, e.claim)

/-- The capture of a queued request refused with a reason (R140, R192). -/
def QueueEntry.captured (r : Byte) (e : QueueEntry) : Capture :=
  ⟨e.tester, e.tag, some e.cls, r, e.data.length, e.data.take 48⟩

/-- Removed entries are told in their order; the first of them is offered to the capture (R192). -/
theorem State.answerEntries_effect (s : State) (l : List QueueEntry) :
    (s.answerEntries (some Reason.fenced) l).SameTold ((l.map QueueEntry.named).foldl State.tell s) ∧
    (s.answerEntries (some Reason.fenced) l).trail.log = s.trail.log ∧
    (s.answerEntries (some Reason.fenced) l).trail.capture =
      s.trail.capture.orElse fun _ => l.head?.map (QueueEntry.captured Reason.fenced) := by
  induction l generalizing s with
  | nil => exact ⟨.refl s, rfl, by cases h : s.trail.capture <;> exact h⟩
  | cons e l ih =>
    obtain ⟨same, log, capture⟩ := ih (s.answerEntry (some Reason.fenced) e)
    have told : (s.answerEntry (some Reason.fenced) e).SameTold (s.tell e.named) := ⟨⟨rfl, rfl, rfl⟩, rfl⟩
    obtain ⟨log', capture'⟩ := Trail.told_log s.takesStatus Reason.fenced s.trail
    have trail : (s.answerEntry (some Reason.fenced) e).trail.log = s.trail.log ∧
        (s.answerEntry (some Reason.fenced) e).trail.capture =
          s.trail.capture.orElse fun _ => some (e.captured Reason.fenced) := by
      have offered : (s.answerEntry (some Reason.fenced) e).trail =
          { Trail.told s.takesStatus Reason.fenced s.trail with
            capture := (Trail.told s.takesStatus Reason.fenced s.trail).capture.orElse fun _ =>
              some (e.captured Reason.fenced) } := by
        rw [← State.requestResult_trail s .reqFirst e.tester e.tag Reason.fenced e.claim]
        rfl
      rw [offered]
      exact ⟨log', by rw [capture']⟩
    refine ⟨same.trans (told.tells _), log.trans trail.1, capture.trans ?_⟩
    rw [trail.2]
    cases s.trail.capture <;> rfl

/-! ## The request in service at the entry into FENCED (R166, R171) -/

/-- The RESULT that the entry into FENCED owes for the request in service: the order's, where it is
abandoned, or the discarded request's; none for an orphaned one (R59). -/
def State.slotAnswers (s : State) : List (Tester × Byte × ClaimId) :=
  match s.delivery.service, s.fence.stop with
  | some v, some o =>
    if v.orphaned = true ∨ o.testerGone = true ∨ o.cause = .serviceTimeout then [] else [(o.tester, o.tag, o.claim)]
  | some v, none =>
    if v.cls.effecting = true ∧ v.orphaned = false then [(v.tester, v.tag, v.claim)] else []
  | none, _ => []

/-- The blocks of the request that the entry into FENCED ends. -/
def State.slotBlocks (s : State) : Nat :=
  match s.delivery.service with
  | some v => if v.cls.effecting = true then v.blocks else 0
  | none => 0

/-- The states that agree in what the end of the request in service touches. -/
structure State.SameWork (b s : State) : Prop extends b.SameBus s where
  delivery : b.delivery = s.delivery
  memory : b.memory = s.memory
  hold : b.hold = s.hold
  trail : b.trail = s.trail

/-- What the end of the request in service leaves, with the RESULTs told (R166, R171). -/
structure State.SlotCleared (s u : State) (answers : List (Tester × Byte × ClaimId)) : Prop where
  queue : u.delivery.queue = s.delivery.queue
  gone : ∀ v, s.delivery.service = some v → v.cls.effecting = true → u.delivery.service = none
  stays : ∀ v, s.delivery.service = some v → v.cls.effecting = false → u.delivery.service = some v
  free : u.memory.free = s.memory.free + s.slotBlocks
  lanes : u.memory.lanes = s.memory.lanes
  replies : u.memory.replies = s.memory.replies
  told : u.SameTold (answers.foldl State.tell s)
  log : u.trail.log = s.trail.log
  capture : u.trail.capture = s.trail.capture
  record : ∀ v, s.delivery.service = some v → v.cls.effecting = true →
    u.record? v.claim = (s.record? v.claim).map fun r => r.onSponsor fun p => { p with op := .idle }
  replicated : u.hold.view.map Record.replicated = s.hold.view.map Record.replicated

namespace State.SlotCleared

variable {s b u : State} {v : Service} {l : List (Tester × Byte × ClaimId)}

/-- No effecting request is in service. -/
theorem idle (h : b.SameWork s) (hn : ∀ v, s.delivery.service = some v → v.cls.effecting = false) :
    s.SlotCleared b [] where
  queue := by rw [h.delivery]
  gone v hv he := absurd he (by simp [hn v hv])
  stays v hv _ := by rw [h.delivery, hv]
  free := by
    have blocks : s.slotBlocks = 0 := by
      unfold State.slotBlocks
      split
      · rename_i v hv
        exact if_neg (by simp [hn v hv])
      · rfl
    rw [h.memory, blocks]
    rfl
  lanes := by rw [h.memory]
  replies := by rw [h.memory]
  told := ⟨h.toSameBus, by rw [h.trail]; rfl⟩
  log := by rw [h.trail]
  capture := by rw [h.trail]
  record v hv he := absurd he (by simp [hn v hv])
  replicated := by rw [h.hold]

/-- The effecting request in service leaves, with no RESULT. -/
theorem left (h : b.SameWork s) (hv : s.delivery.service = some v) (he : v.cls.effecting = true) :
    s.SlotCleared (b.leaveSlot v) [] := by
  obtain ⟨service, queue, -, free, lanes, replies⟩ := State.leaveSlot_effect b v
  refine
    { queue := by rw [queue, h.delivery]
      gone := fun _ _ _ => service
      stays := fun w hw hr => ?_
      free := ?_
      lanes := by rw [lanes, h.memory]
      replies := by rw [replies, h.memory]
      told := ⟨⟨by simpa using h.bus, by simpa using h.membership, by simpa using h.config⟩, by simp [h.trail]⟩
      log := by simp [h.trail]
      capture := by simp [h.trail]
      record := fun w hw _ => ?_
      replicated := ?_ }
  · obtain rfl : v = w := Option.some.inj (hv.symm.trans hw)
    simp [he] at hr
  · rw [free, h.memory, State.slotBlocks, hv]
    simp [he]
  · obtain rfl : v = w := Option.some.inj (hv.symm.trans hw)
    rw [State.leaveSlot_record? b he, State.record?_congr h.hold]
  · rw [State.leaveSlot_eq, if_pos he, State.setOperation, State.updateSponsor_replicated]
    exact congrArg (fun x : Hold => x.view.map Record.replicated) h.hold

/-- Its RESULT is told. -/
theorem tell (h : s.SlotCleared u []) (x : Tester × Byte × ClaimId) : s.SlotCleared (u.tell x) [x] := by
  obtain ⟨log, capture⟩ := Trail.told_log u.takesStatus Reason.fenced u.trail
  have trail : (u.tell x).trail = Trail.told u.takesStatus Reason.fenced u.trail :=
    State.requestResult_trail ..
  exact
    { queue := by simpa [State.tell] using h.queue
      gone := by simpa [State.tell] using h.gone
      stays := by simpa [State.tell] using h.stays
      free := by simpa [State.tell] using h.free
      lanes := by simpa [State.tell] using h.lanes
      replies := by simpa [State.tell] using h.replies
      told := h.told.tell x
      log := by rw [trail, log, h.log]
      capture := by rw [trail, capture, h.capture]
      record := by simpa [State.tell, State.record?] using h.record
      replicated := by simpa [State.tell] using h.replicated }

theorem writeIncident (h : s.SlotCleared u l) (i : Incident) : s.SlotCleared (u.writeIncident i) l :=
  ⟨h.queue, h.gone, h.stays, h.free, h.lanes, h.replies, ⟨⟨h.told.bus, h.told.membership, h.told.config⟩,
    h.told.counters⟩, h.log, h.capture, h.record, h.replicated⟩

end State.SlotCleared

/-- Step 1 of R171: the domain is FENCED, with the cause in the set. -/
def State.fencing (s : State) (cause : FenceCause) : State :=
  s.onFence fun f => { f with fenced := true, causes := f.causes ||| cause.bit }

/-- Steps 1 to 5 of R171: the domain is FENCED, and the effecting request in service has ended. -/
def State.fencedSlot (s : State) (cause : FenceCause) (i : Incident) : State :=
  ((s.fencing cause).abandonStop.writeIncident i).discardEffecting

theorem State.discardEffecting_of_read {s : State}
    (h : ∀ v, s.delivery.service = some v → v.cls.effecting = false) : s.discardEffecting = s := by
  unfold State.discardEffecting
  split
  · rfl
  · rename_i v hv
    simp [h v hv]

theorem State.discardEffecting_of_effecting {s : State} {v : Service} (hv : s.delivery.service = some v)
    (he : v.cls.effecting = true) :
    s.discardEffecting =
      if v.orphaned = true then s.leaveSlot v else (s.leaveSlot v).tell (v.tester, v.tag, v.claim) := by
  simp only [State.discardEffecting, hv, he, if_true]
  rfl

/-- An order that stands is the order of the effecting request in service (R160). -/
theorem State.served_of_stopStands {s : State} (h : s.stopStands = true) {o : StopOrder}
    (ho : s.fence.stop = some o) : ∃ v, s.delivery.service = some v ∧ v.cls.effecting = true := by
  simp only [State.stopStands, ho] at h
  cases hv : s.delivery.service with
  | none => simp [hv] at h
  | some v =>
    simp only [hv, Bool.and_eq_true] at h
    exact ⟨v, rfl, h.2.1.1.1.1.1⟩

theorem State.abandonStop_of_none {s : State} (h : s.fence.stop = none) : s.abandonStop = s := by
  simp [State.abandonStop, h]

/-- An order abandoned with its request, before its RESULT (R166). -/
def State.abandoned (s : State) : State :=
  ((s.onFence fun f => { f with stop := none }).updateIncident fun i =>
    { i with outcome := i.outcome.orElse fun _ => some .abandoned }).leaveStopNotice

theorem State.abandonStop_of_some {s : State} {o : StopOrder} {v : Service} (ho : s.fence.stop = some o)
    (hv : s.delivery.service = some v) :
    s.abandonStop =
      if v.orphaned = true ∨ o.testerGone = true ∨ o.cause = .serviceTimeout then s.abandoned.leaveSlot v
      else (s.abandoned.leaveSlot v).tell (o.tester, o.tag, o.claim) := by
  have silent : ((o.release v).orphaned || o.cause == .serviceTimeout) = true ↔
      (v.orphaned = true ∨ o.testerGone = true ∨ o.cause = .serviceTimeout) := by
    simp [or_assoc]
  simp only [State.abandonStop, ho, hv, silent]
  rfl

/-- The request in service at the entry into FENCED, by what it and the order are. -/
theorem State.fencedSlot_cleared {s : State} (h : s.stopStands = true) (cause : FenceCause) (i : Incident) :
    s.SlotCleared (s.fencedSlot cause i) s.slotAnswers := by
  have quiet {u : State} (hu : u.delivery.service = none) : u.discardEffecting = u :=
    State.discardEffecting_of_read (by simp [hu])
  have work : (s.fencing cause).SameWork s := ⟨⟨rfl, rfl, rfl⟩, rfl, rfl, rfl, rfl⟩
  unfold State.fencedSlot State.slotAnswers
  cases ho : s.fence.stop with
  | some o =>
    obtain ⟨v, hv, he⟩ := State.served_of_stopStands h ho
    have left : s.SlotCleared ((s.fencing cause).abandoned.leaveSlot v) [] :=
      .left ⟨⟨rfl, rfl, rfl⟩, rfl, rfl, rfl, rfl⟩ hv he
    rw [State.abandonStop_of_some (s := s.fencing cause) ho hv]
    simp only [hv]
    split
    · rw [quiet ((left.writeIncident i).gone v hv he)]
      exact left.writeIncident i
    · rw [quiet (((left.tell _).writeIncident i).gone v hv he)]
      exact (left.tell _).writeIncident i
  | none =>
    rw [State.abandonStop_of_none (s := s.fencing cause) ho]
    cases hv : s.delivery.service with
    | none =>
      rw [quiet (u := (s.fencing cause).writeIncident i) hv]
      exact (State.SlotCleared.idle work (by simp [hv])).writeIncident i
    | some v =>
      cases he : v.cls.effecting with
      | false =>
        have read : ∀ w, s.delivery.service = some w → w.cls.effecting = false := by
          rintro w hw
          obtain rfl : v = w := Option.some.inj (hv.symm.trans hw)
          exact he
        rw [State.discardEffecting_of_read (s := (s.fencing cause).writeIncident i) read]
        simp only [he, Bool.false_eq_true, false_and, if_false]
        exact (State.SlotCleared.idle work read).writeIncident i
      | true =>
        have left : s.SlotCleared (((s.fencing cause).writeIncident i).leaveSlot v) [] :=
          .left ⟨⟨rfl, rfl, rfl⟩, rfl, rfl, rfl, rfl⟩ hv he
        rw [State.discardEffecting_of_effecting (s := (s.fencing cause).writeIncident i) hv he]
        cases hq : v.orphaned with
        | true =>
          simp only [hq, Bool.true_eq_false, and_false, if_true, if_false]
          exact left
        | false =>
          simp only [he, hq, Bool.false_eq_true, and_self, if_true, if_false]
          exact left.tell (v.tester, v.tag, v.claim)

theorem Fence.writeIncident_prior {f : Fence} {x : Incident} (hx : f.current = some x)
    (ho : x.status = .opened) (i : Incident) :
    (f.writeIncident i).prior = some { x with status := .overtaken } := by
  simp [Fence.writeIncident, hx, ho]

/-- An abandoned order leaves the fence unit with the outcome in CURRENT (R166). -/
theorem State.abandonStop_fence {s : State}
    (h : ∀ o, s.fence.stop = some o → ∃ v, s.delivery.service = some v) :
    let f := s.abandonStop.fence
    f.fenced = s.fence.fenced ∧ f.causes = s.fence.causes ∧ f.marker = s.fence.marker ∧
    f.prior = s.fence.prior ∧ f.stop = none ∧
    (∀ x, s.fence.current = some x → ∃ y, f.current = some y ∧ y.cause = x.cause ∧ y.status = x.status) ∧
    (∀ y, f.current = some y → ∃ x, s.fence.current = some x ∧ y.status = x.status) := by
  intro f
  cases ho : s.fence.stop with
  | none =>
    have same : f = s.fence := congrArg State.fence (State.abandonStop_of_none ho)
    rw [same]
    exact ⟨rfl, rfl, rfl, rfl, ho, fun x hx => ⟨x, hx, rfl, rfl⟩, fun y hy => ⟨y, hy, rfl⟩⟩
  | some o =>
    obtain ⟨v, hv⟩ := h o ho
    have ended : f = s.abandoned.fence := by
      refine (congrArg State.fence (State.abandonStop_of_some ho hv)).trans ?_
      split <;> simp [State.tell]
    rw [ended]
    refine ⟨rfl, rfl, rfl, rfl, rfl, fun x hx => ⟨_, congrArg (Option.map _) hx, rfl, rfl⟩, fun y hy => ?_⟩
    obtain ⟨x, hx, rfl⟩ := Option.map_eq_some_iff.mp hy
    exact ⟨x, hx, rfl⟩

/-- The fence unit after the end of the request in service (R166, R167, R171). -/
theorem State.fencedSlot_fence {s : State} (h : s.stopStands = true) (cause : FenceCause) (i : Incident) :
    let f := (s.fencedSlot cause i).fence
    f.fenced = true ∧ f.causes = s.fence.causes ||| cause.bit ∧ f.stop = none ∧ f.current = some i ∧
    f.marker = s.fence.marker ∧
    (∀ x, s.fence.current = some x → x.status = .opened →
      ∃ y, f.prior = some y ∧ y.cause = x.cause ∧ y.status = .overtaken) ∧
    ((∀ x, s.fence.current = some x → x.status ≠ .opened) → f.prior = s.fence.prior) := by
  have kept : (s.fencedSlot cause i).fence = (s.fencing cause).abandonStop.fence.writeIncident i := by
    simp [State.fencedSlot]
  obtain ⟨fenced, causes, marker, prior, stop, opened, closed⟩ :=
    State.abandonStop_fence (s := s.fencing cause) fun o ho =>
      (State.served_of_stopStands h ho).imp fun _ h => h.1
  obtain ⟨hfenced, hcauses, hstop, hmarker⟩ := Fence.writeIncident_keeps (s.fencing cause).abandonStop.fence i
  obtain ⟨current, -, unopened⟩ := Fence.writeIncident_effect (s.fencing cause).abandonStop.fence i
  intro f
  rw [show f = _ from kept]
  refine ⟨hfenced.trans fenced, hcauses.trans causes, hstop.trans stop, current, hmarker.trans marker,
    fun x hx ho => ?_, fun hn => (unopened ?_).trans prior⟩
  · obtain ⟨y, hy, hcause, hstatus⟩ := opened x hx
    exact ⟨{ y with status := .overtaken }, Fence.writeIncident_prior hy (hstatus.trans ho) i, hcause, rfl⟩
  · rintro ⟨y, hy, ho⟩
    obtain ⟨x, hx, hs⟩ := closed y hy
    exact hn x hx (hs.symm.trans ho)

end Sys2Proof.Machine

/-!
PROOF. A fence cause taken (R170): the entry into FENCED (R171) field by field, a further cause, and the
request for REVOKE_DOMAIN (R39).
-/

namespace Sys2Proof.Machine

section
variable {s : State}

/-! ## Removals from the delivery queue (R145) -/

theorem State.answerEntry_keeps (s : State) (x : Option Byte) (e : QueueEntry) :
    (s.answerEntry x e).memory = s.memory ∧ (s.answerEntry x e).delivery = s.delivery ∧
    (s.answerEntry x e).trail.log = s.trail.log := by
  cases x with
  | none => exact ⟨rfl, rfl, rfl⟩
  | some r =>
    refine ⟨by simp [State.answerEntry], by simp [State.answerEntry], ?_⟩
    have offered : (s.answerEntry (some r) e).trail.log = (s.requestResult .reqFirst e.tester e.tag r
      e.claim).trail.log := rfl
    rw [offered, State.requestResult_trail, (Trail.told_log ..).1]

theorem State.answerEntries_keeps (s : State) (x : Option Byte) (l : List QueueEntry) :
    (s.answerEntries x l).memory = s.memory ∧ (s.answerEntries x l).trail.log = s.trail.log :=
  ⟨State.foldl_keeps State.memory _ (fun s e => (s.answerEntry_keeps x e).1) l s,
    State.foldl_keeps (fun s => s.trail.log) _ (fun s e => (s.answerEntry_keeps x e).2.2) l s⟩

/-- Removed entries return their blocks (R145), and post nothing. -/
theorem State.removeEntries_free (s : State) (p : QueueEntry → Bool) (x : Option Byte) :
    (s.removeEntries p x).memory.free =
      s.memory.free + ((s.delivery.queue.filter p).map fun e => blocksFor e.data.length).sum ∧
    (s.removeEntries p x).trail.log = s.trail.log := by
  obtain ⟨memory, log⟩ := State.answerEntries_keeps (s.dropEntries p) x (s.delivery.queue.filter p)
  rw [State.removeEntries_eq, memory, log]
  exact ⟨rfl, rfl⟩

/-! ## The request for REVOKE_DOMAIN (R39) -/

theorem State.requestRevoke_of_offline (h : s.membership.state = .offline) : s.requestRevoke = s := by
  simp [State.requestRevoke, h]

theorem State.requestRevoke_of_waiting (h : s.membership.state ≠ .offline) (hw : s.revokeWaits = true) :
    s.requestRevoke = s.onMembership fun m => { m with outstanding := m.outstanding.map fun x =>
      if x.progress = .waiting then { x with reason := .revoked } else x } := by
  unfold State.requestRevoke
  split
  · exact absurd ‹_› h
  · exact if_pos hw

theorem State.requestRevoke_of_offered (h : s.membership.state ≠ .offline) (hw : s.revokeWaits = false) :
    s.requestRevoke = s.offerRevoke .revoked := by
  unfold State.requestRevoke
  split
  · exact absurd ‹_› h
  · exact if_neg (by simp [hw])

theorem State.offerRevoke_log (s : State) (r : ClearReason) :
    (s.offerRevoke r).trail.log = s.trail.log ∧ (s.offerRevoke r).trail.capture = s.trail.capture := by
  unfold State.offerRevoke
  split
  · exact ⟨rfl, rfl⟩
  · split
    · exact ⟨rfl, rfl⟩
    · split <;> exact ⟨rfl, rfl⟩

/-- A request for REVOKE_DOMAIN posts nothing and leaves the membership state. -/
theorem State.requestRevoke_effect (s : State) :
    s.requestRevoke.trail.log = s.trail.log ∧ s.requestRevoke.trail.capture = s.trail.capture ∧
    s.requestRevoke.membership.state = s.membership.state := by
  by_cases h : s.membership.state = .offline
  · rw [State.requestRevoke_of_offline h]
    exact ⟨rfl, rfl, rfl⟩
  · cases hw : s.revokeWaits with
    | true =>
      rw [State.requestRevoke_of_waiting h hw]
      exact ⟨rfl, rfl, rfl⟩
    | false =>
      rw [State.requestRevoke_of_offered h hw]
      exact ⟨(s.offerRevoke_log _).1, (s.offerRevoke_log _).2, State.offerRevoke_state _⟩

/-! ## The entry into FENCED (R171) -/

/-- The state as the notice of the entry into FENCED is queued (R171, steps 1 to 7). -/
def State.fencedQueue (s : State) (cause : FenceCause) (i : Incident) : State :=
  ((s.fencedSlot cause i).removeEntries (fun e => e.cls.effecting) (some Reason.fenced)).requestRevoke

theorem State.enterFenced_eq (s : State) (cause : FenceCause) (i : Incident) :
    s.enterFenced cause i = ((s.fencedQueue cause i).queueNotice
      ⟨.fenced, s.guardTime, none, none, noClaim, none, cause.code, false⟩).postFenceEntry cause := by
  have time : (s.fencedQueue cause i).guardTime = s.guardTime := by
    simp [State.fencedQueue, State.fencedSlot, State.fencing]
  rw [← time]
  rfl

/-- What the entry into FENCED has told and removed before its notice, and what it leaves. -/
theorem State.fencedQueue_effect (h : s.stopStands = true) (cause : FenceCause) (i : Incident) :
    let u := s.fencedSlot cause i
    let removed := s.delivery.queue.filter fun e => e.cls.effecting
    let w := ((s.slotAnswers ++ removed.map QueueEntry.named).foldl State.tell s).requestRevoke
    let t := s.fencedQueue cause i
    t.bus = w.bus ∧ t.membership = w.membership ∧ t.trail.counters = w.trail.counters ∧
    t.trail.log = s.trail.log ∧
    t.trail.capture = (s.trail.capture.orElse fun _ => removed.head?.map (QueueEntry.captured Reason.fenced)) ∧
    t.delivery.queue = s.delivery.queue.filter (fun e => !e.cls.effecting) ∧
    t.delivery.service = u.delivery.service ∧
    t.memory.free = s.memory.free + s.slotBlocks + (removed.map fun e => blocksFor e.data.length).sum ∧
    t.memory.lanes = s.memory.lanes ∧ t.memory.replies = s.memory.replies ∧
    t.fence = u.fence ∧ t.hold = u.hold ∧ t.membership.state = s.membership.state := by
  intro u removed w t
  have cleared : s.SlotCleared u s.slotAnswers := State.fencedSlot_cleared h cause i
  let r := u.removeEntries (fun e => e.cls.effecting) (some Reason.fenced)
  have answered : r = (u.dropEntries fun e => e.cls.effecting).answerEntries (some Reason.fenced) removed := by
    rw [show removed = u.delivery.queue.filter fun e => e.cls.effecting from cleared.queue ▸ rfl]
    exact State.removeEntries_eq u _ _
  obtain ⟨delivery, lanes, replies⟩ := State.removeEntries_effect u (fun e => e.cls.effecting)
    (some Reason.fenced)
  obtain ⟨free, log⟩ := State.removeEntries_free u (fun e => e.cls.effecting) (some Reason.fenced)
  obtain ⟨same, -, capture⟩ := State.answerEntries_effect (u.dropEntries fun e => e.cls.effecting) removed
  rw [← answered] at same capture
  have told : r.SameTold ((s.slotAnswers ++ removed.map QueueEntry.named).foldl State.tell s) := by
    rw [List.foldl_append]
    have dropped : (u.dropEntries fun e => e.cls.effecting).SameTold u := ⟨⟨rfl, rfl, rfl⟩, rfl⟩
    exact same.trans ((dropped.trans cleared.told).tells _)
  obtain ⟨bus, membership⟩ := told.requestRevoke
  obtain ⟨hlog, hcapture, hstate⟩ := r.requestRevoke_effect
  refine ⟨bus, membership, told.requestRevoke_counters, hlog.trans (log.trans cleared.log), ?_, ?_, ?_,
    ?_, ?_, ?_, ?_, ?_, ?_⟩
  · rw [← cleared.capture]
    exact hcapture.trans capture
  · rw [← cleared.queue]
    refine Eq.trans ?_ (congrArg Delivery.queue delivery)
    simp [t, State.fencedQueue, u]
  · have service : r.delivery.service = u.delivery.service := by simp only [r, delivery]
    rw [← service]
    simp [t, State.fencedQueue, r, u]
  · rw [← cleared.free, show removed = u.delivery.queue.filter fun e => e.cls.effecting from cleared.queue ▸ rfl,
      ← free]
    simp [t, State.fencedQueue, u]
  · rw [← cleared.lanes, ← lanes]
    simp [t, State.fencedQueue, u]
  · rw [← cleared.replies, ← replies]
    simp [t, State.fencedQueue, u]
  · simp [t, State.fencedQueue, u]
  · simp [t, State.fencedQueue, u]
  · refine hstate.trans ?_
    simp [r, u, State.fencedSlot, State.fencing]

/-- Posting the entry of a fence entry while RECORDING (R171, R189). -/
theorem State.postFenceEntry_of_recording {cause : FenceCause} {x : Trail} (hl : s.trail.log = x.log)
    (hm : x.mode = .recording) :
    (s.postFenceEntry cause).trail.entries =
      x.entries.set x.index.val (some ⟨s.guardTime, .fenced, none, none, none, cause.code⟩) x.index.isLt ∧
    (s.postFenceEntry cause).trail.mode =
      if s.config.timing.freezeAfter = 0 then .frozen else .draining s.config.timing.freezeAfter := by
  simp only [Trail.log, Prod.mk.injEq] at hl
  obtain ⟨entries, index, -, mode, -⟩ := hl
  simp [State.postFenceEntry, Trail.post, Trail.write, mode, hm, entries, index]

theorem State.postFenceEntry_counters (s : State) (cause : FenceCause) :
    (s.postFenceEntry cause).trail.counters = s.trail.counters ∧
    (s.postFenceEntry cause).trail.capture = s.trail.capture := by
  unfold State.postFenceEntry Trail.post
  simp only [State.onTrail_trail]
  split <;> exact ⟨rfl, rfl⟩

/-- The last steps of the entry into FENCED (R171, steps 8 and 9) touch the notices and the trail. -/
theorem State.enterFenced_effect (s : State) (cause : FenceCause) (i : Incident) :
    let t := s.enterFenced cause i
    let q := s.fencedQueue cause i
    t.bus = q.bus ∧ t.membership = q.membership ∧ t.memory = q.memory ∧ t.hold = q.hold ∧
    t.delivery = q.delivery ∧ t.fence = q.fence ∧ t.trail.counters = q.trail.counters ∧
    t.trail.capture = q.trail.capture ∧
    (∃ before, t.link.notices =
      before ++ [⟨.fenced, s.guardTime, none, none, noClaim, none, cause.code, false⟩]) ∧
    (q.trail.log = s.trail.log → s.trail.mode = .recording →
      t.trail.entries = s.trail.entries.set s.trail.index.val
        (some ⟨s.guardTime, .fenced, none, none, none, cause.code⟩) s.trail.index.isLt ∧
      t.trail.mode = if s.config.timing.freezeAfter = 0 then .frozen
        else .draining s.config.timing.freezeAfter) := by
  intro t q
  let n : Notice := ⟨.fenced, s.guardTime, none, none, noClaim, none, cause.code, false⟩
  have entered : t = (q.queueNotice n).postFenceEntry cause := State.enterFenced_eq s cause i
  obtain ⟨counters, capture⟩ := State.postFenceEntry_counters (q.queueNotice n) cause
  rw [entered, counters, capture]
  refine ⟨by simp, by simp, by simp, by simp, by simp, by simp, by simp, by simp,
    ⟨roomFor q.link.notices n, ?_⟩, fun hl hm => ?_⟩
  · simpa using State.queueNotice_notices q n
  · have time : (q.queueNotice n).guardTime = s.guardTime := by
      simp [q, State.fencedQueue, State.fencedSlot, State.fencing]
    have config : (q.queueNotice n).config = s.config := by
      simp [q, State.fencedQueue, State.fencedSlot, State.fencing]
    have posted := State.postFenceEntry_of_recording (s := q.queueNotice n) (cause := cause) (x := s.trail)
      (by simpa using hl) hm
    rwa [time, config] at posted

theorem State.takeFenceCause_of_open (h : s.fence.fenced = false) (cause : FenceCause) (i : Incident) :
    s.takeFenceCause cause i = s.enterFenced cause i := by
  simp [State.takeFenceCause, h]

/-- Settles O22: the entry step by step, a further cause, and the request by the membership state. -/
theorem fenceCauseTaken : Obligations.FenceCauseTaken := by
  unfold Obligations.FenceCauseTaken
  refine ⟨fun s c i => ⟨fun ho hs => ?_, fun hf hc => ?_, fun hf hc => ?_⟩, fun s =>
    ⟨State.requestRevoke_of_offline, State.requestRevoke_of_waiting,
      fun hm hw he => ⟨fun hl => ?_, fun hl => ?_⟩⟩⟩
  · rw [State.takeFenceCause_of_open ho]
    intro t
    have cleared := State.fencedSlot_cleared hs c i
    obtain ⟨fenced, causes, stop, current, marker, opened, closed⟩ := State.fencedSlot_fence hs c i
    obtain ⟨bus, membership, counters, log, capture, queue, service, free, lanes, replies, fence, hold, state⟩ :=
      State.fencedQueue_effect hs c i
    obtain ⟨hbus, hmembership, hmemory, hhold, hdelivery, hfence, hcounters, hcapture, notices, posted⟩ :=
      State.enterFenced_effect s c i
    have fenceUnit : t.fence = (s.fencedSlot c i).fence := hfence.trans fence
    have holdUnit : t.hold = (s.fencedSlot c i).hold := hhold.trans hold
    have slot : t.delivery.service = (s.fencedSlot c i).delivery.service := by rw [hdelivery, service]
    rw [fenceUnit]
    refine ⟨fenced, causes, stop, current, marker, opened, closed, fun v hv he => ?_, fun v hv he => ?_, ?_,
      fun v hv he => ?_, ⟨?_, ?_, ?_, ?_, ?_, ?_, ?_⟩, ?_, ?_, notices, posted log⟩
    · rw [slot, cleared.gone v hv he]
    · rw [slot, cleared.stays v hv he]
    · rw [hdelivery, queue]
    · rw [State.record?_congr holdUnit]
      exact cleared.record v hv he
    · exact hbus.trans bus
    · exact hmembership.trans membership
    · exact hcounters.trans counters
    · refine (hcapture.trans capture).trans ?_
      cases s.trail.capture <;> rfl
    · rw [hmemory]
      exact free
    · rw [hmemory, lanes]
    · rw [hmemory, replies]
    · rw [holdUnit, cleared.replicated]
    · rw [hmembership, state]
  · exact (if_neg (by simp [hf])).trans (if_neg (by simp [hc]))
  · simp [State.takeFenceCause, hf, hc]
  · rw [State.requestRevoke_of_offered hm hw, State.offerRevoke_of_room he hw hl]
    rfl
  · rw [State.requestRevoke_of_offered hm hw, State.offerRevoke_of_full he hw hl]
    rfl

end

end Sys2Proof.Machine

/-!
PROOF. Starts, the loader and acceptance (R25 to R31, R175, R176).
-/

namespace Sys2Proof.Machine

/-! ## Starts and the loader (R25 to R27) -/

section
variable {s : State}

theorem exec_powerOn_of_released (h : s.pins.resetAsserted = false) :
    exec .powerOn s = .next { State.reset with
      pending := s.pending, freeCount := s.freeCount
      pins := ⟨false, s.pins.fenceAsserted, false, false⟩ } := by
  have started : exec .powerOn s = finish s.startPowerOn := congrArg finish (if_neg (by simp [h]))
  rw [started, State.startPowerOn, h]
  rfl

theorem exec_powerOn_of_asserted (h : s.pins.resetAsserted = true) :
    exec .powerOn s = .next { State.reset with
      pending := s.pending, freeCount := s.freeCount, phase := .held .powerOn, loader := .idle
      pins := ⟨true, s.pins.fenceAsserted, false, false⟩ } := by
  have started : exec .powerOn s = finish ((s.startPowerOn.setPhase (.held .powerOn)).setLoader .idle) :=
    congrArg finish (if_pos h)
  rw [started, State.startPowerOn, h]
  rfl

/-- While RESET is asserted FAULT stands by the domain state, and ATTN does not (R168, R187). -/
theorem exec_resetAsserted (s : State) :
    exec .resetAsserted s = .next { s with
      phase := .held s.startAfterReset
      pins := ⟨true, s.pins.fenceAsserted, s.fence.fenced, false⟩
      loader := .idle
      bus := { s.bus with sending := none }
      link := { s.link with response := none }
      delivery := { s.delivery with serviceWanted := s.serviceWanted } } := by
  have fault : s.assertReset.faultLevel = s.fence.fenced := Bool.or_false _
  have driven : exec .resetAsserted s = .next { s.assertReset with
      delivery := { s.delivery with serviceWanted := s.serviceWanted }
      pins := ⟨true, s.pins.fenceAsserted, s.assertReset.faultLevel, false⟩ } := rfl
  rw [driven, fault]
  rfl

theorem exec_lineReset_of_powerOn (h : s.startAfterReset = .powerOn) :
    exec .lineReset s = .next { State.reset with
      pending := s.pending, freeCount := s.freeCount
      pins := ⟨false, s.pins.fenceAsserted, false, false⟩ } := by
  have started : s.releaseReset =
      (s.onPins fun p => { p with resetAsserted := false }).startPowerOn := if_pos h
  exact congrArg finish started

theorem exec_lineReset_of_lineReset (h : s.startAfterReset ≠ .powerOn) :
    exec .lineReset s = .next { State.reset with
      pending := s.pending, freeCount := s.freeCount, startKind := .lineReset
      pins := ⟨false, s.pins.fenceAsserted, s.fence.fenced, false⟩
      fence := { s.fence with stop := none }, trail := s.trail } := by
  have started : s.releaseReset =
      (s.onPins fun p => { p with resetAsserted := false }).startLineReset := if_neg h
  have fault : (s.onPins fun p => { p with resetAsserted := false }).startLineReset.faultLevel =
      s.fence.fenced := Bool.or_false _
  have driven : exec .lineReset s = .next s.releaseReset.drive := rfl
  rw [driven, started, State.drive, fault]
  rfl

theorem State.failAttempt_of_reading {n : Nat} (hp : s.phase = .starting) (hl : s.loader = .reading n) :
    s.failAttempt =
      if 3 ≤ n + 1 then s.rejectImage else s.setLoader (.waiting (n + 1) (s.startTimer 5)) := by
  simp only [State.failAttempt, hp, hl, Config.loaderAttempts, Config.loaderWait]

theorem State.retryLoader_of_waiting {n : Nat} {tm : Timer} (hp : s.phase = .starting)
    (hl : s.loader = .waiting n tm) : s.retryLoader = (s.reachDue tm).setLoader (.reading n) := by
  simp only [State.retryLoader, hp, hl]

/-- Settles O26, by the level of RESET, the start that is held, and the attempts made. -/
theorem startsAndLoader : Obligations.StartsAndLoader := by
  unfold Obligations.StartsAndLoader
  intro s
  refine ⟨exec_powerOn_of_released, exec_powerOn_of_asserted, exec_resetAsserted s,
    exec_lineReset_of_powerOn, exec_lineReset_of_lineReset, fun n hp hl => ⟨fun hn => ?_, fun hn => ?_⟩,
    fun n tm hp hl => ?_⟩
  · exact congrArg finish ((State.failAttempt_of_reading hp hl).trans (if_neg (by omega)))
  · exact congrArg finish ((State.failAttempt_of_reading hp hl).trans (if_pos hn))
  · exact congrArg finish (State.retryLoader_of_waiting hp hl)

/-! ## The fence unit at acceptance (R175, R176) -/

theorem State.abandonStop_causes (s : State) :
    s.abandonStop.fence.fenced = s.fence.fenced ∧ s.abandonStop.fence.causes = s.fence.causes ∧
    s.abandonStop.fence.marker = s.fence.marker := by
  unfold State.abandonStop
  split
  · dsimp only
    split <;> simp [State.updateIncident]
  · exact ⟨rfl, rfl, rfl⟩

theorem causes_of_hasCause {f : Fence} {cause : FenceCause} (h : f.hasCause cause = true) :
    f.causes ||| cause.bit = f.causes := by
  have absorb : ∀ (k : BitVec 5) (c : FenceCause), (k &&& c.bit != 0) = true → k ||| c.bit = k := by
    intro k c
    cases c <;> revert k <;> decide
  exact absorb f.causes cause h

/-- A fence cause taken, of the domain state, the causes and the marker (R170). -/
theorem State.takeFenceCause_fence (s : State) (cause : FenceCause) (i : Incident) :
    (s.takeFenceCause cause i).fence.fenced = true ∧
    (s.takeFenceCause cause i).fence.causes = s.fence.causes ||| cause.bit ∧
    (s.takeFenceCause cause i).fence.marker = s.fence.marker := by
  cases hf : s.fence.fenced with
  | false =>
    rw [State.takeFenceCause_of_open hf, (State.enterFenced_effect s cause i).2.2.2.2.2.1]
    obtain ⟨fenced, causes, marker⟩ := (s.fencing cause).abandonStop_causes
    obtain ⟨hfenced, hcauses, -, hmarker⟩ := Fence.writeIncident_keeps (s.fencing cause).abandonStop.fence i
    have queued : (s.fencedQueue cause i).fence = (s.fencing cause).abandonStop.fence.writeIncident i := by
      simp [State.fencedQueue, State.fencedSlot]
    rw [queued, hfenced, hcauses, hmarker, fenced, causes, marker]
    exact ⟨rfl, rfl, rfl⟩
  | true =>
    cases hc : s.fence.hasCause cause with
    | true =>
      have same : s.takeFenceCause cause i = s := by simp [State.takeFenceCause, hf, hc]
      rw [same, causes_of_hasCause hc]
      exact ⟨hf, rfl, rfl⟩
    | false =>
      have further : s.takeFenceCause cause i =
          ((s.onFence fun f => { f with causes := f.causes ||| cause.bit }).writeIncident i).post
            .fenced none none none cause.code :=
        (if_neg (by simp [hf])).trans (if_neg (by simp [hc]))
      obtain ⟨hfenced, hcauses, -, hmarker⟩ :=
        Fence.writeIncident_keeps { s.fence with causes := s.fence.causes ||| cause.bit } i
      rw [further]
      simp only [State.post_keeps]
      exact ⟨hfenced.trans hf, hcauses, hmarker⟩

/-- While OFFLINE no fence cause touches the membership unit (R39). -/
theorem State.takeFenceCause_membership (h : s.membership.state = .offline) (cause : FenceCause)
    (i : Incident) : (s.takeFenceCause cause i).membership = s.membership := by
  cases hf : s.fence.fenced with
  | false =>
    rw [State.takeFenceCause_of_open hf, (State.enterFenced_effect s cause i).2.1, State.fencedQueue,
      State.requestRevoke_of_offline]
    · simp [State.fencedSlot, State.fencing]
    · simpa [State.fencedSlot, State.fencing] using h
  | true =>
    unfold State.takeFenceCause
    rw [if_neg (by simp [hf])]
    split
    · rfl
    · simp

/-- A fence cause taken where a condition holds. -/
theorem State.fence_ite (s : State) (b : Bool) (cause : FenceCause) (i : Incident) :
    let u := if b then s.takeFenceCause cause i else s
    u.fence.fenced = (s.fence.fenced || b) ∧
    u.fence.causes = (s.fence.causes ||| if b then cause.bit else 0) ∧
    u.fence.marker = s.fence.marker ∧ u.pins = s.pins ∧ u.config = s.config := by
  obtain ⟨fenced, causes, marker⟩ := s.takeFenceCause_fence cause i
  cases b <;> simp [fenced, causes, marker]

theorem causes_of_not_hasCause {f : Fence} {cause : FenceCause} (h : f.hasCause cause = false) :
    f.causes &&& ~~~cause.bit = f.causes := by
  have absent : ∀ (k : BitVec 5) (c : FenceCause), (k &&& c.bit != 0) = false → k &&& ~~~c.bit = k := by
    intro k c
    cases c <;> revert k <;> decide
  exact absent f.causes cause h

/-- The third step of R176: LINE in the cause set follows the FENCE line. -/
def State.followLine (s : State) : State :=
  if s.fence.hasCause .line then
    if s.pins.fenceAsserted then s else s.dropFenceCause .line
  else if s.pins.fenceAsserted then s.takeFenceCause .line (s.fenceIncident .line)
  else s

theorem State.followLine_fence (s : State) :
    s.followLine.fence.fenced = (s.fence.fenced || (s.pins.fenceAsserted && !s.fence.hasCause .line)) ∧
    s.followLine.fence.causes =
      if s.pins.fenceAsserted then s.fence.causes ||| FenceCause.line.bit
      else s.fence.causes &&& ~~~FenceCause.line.bit := by
  obtain ⟨fenced, causes, -⟩ := s.takeFenceCause_fence .line (s.fenceIncident .line)
  unfold State.followLine
  cases hc : s.fence.hasCause .line with
  | true =>
    cases hp : s.pins.fenceAsserted with
    | true => simp [causes_of_hasCause hc]
    | false => simp [State.dropFenceCause]
  | false =>
    cases hp : s.pins.fenceAsserted with
    | true => simp [fenced, causes]
    | false => simp [causes_of_not_hasCause hc]

/-- The second step of R176: RESTART is taken where the marker stands and the image says so. -/
def State.takeRestart (s : State) : State :=
  if s.fence.marker && s.config.fenceAfterLineReset then
    s.takeFenceCause .restart (s.fenceIncident .restart)
  else s

theorem State.updateOpenStop_fence (s : State) (f : Incident → Incident) :
    (s.updateOpenStop f).fence.fenced = s.fence.fenced ∧ (s.updateOpenStop f).fence.causes = s.fence.causes ∧
    (s.updateOpenStop f).fence.marker = s.fence.marker ∧ (s.updateOpenStop f).pins = s.pins ∧
    (s.updateOpenStop f).config = s.config := ⟨rfl, rfl, rfl, rfl, rfl⟩

/-- The fence unit brought up to date after a LINE_RESET (R176). -/
theorem State.startFencesLineReset_fence (s : State) :
    let f := s.startFencesLineReset.fence
    let restart := s.fence.marker && s.config.fenceAfterLineReset
    f.fenced = (s.fence.fenced || restart || (s.pins.fenceAsserted && !s.fence.hasCause .line)) ∧
    f.marker = false ∧
    f.causes =
      if s.pins.fenceAsserted then s.fence.causes ||| FenceCause.line.bit ||| (if restart then FenceCause.restart.bit else 0)
      else (s.fence.causes ||| if restart then FenceCause.restart.bit else 0) &&& ~~~FenceCause.line.bit := by
  intro f restart
  let u := (s.updateOpenStop fun i => { i with outcome := some .abandoned }).takeRestart
  obtain ⟨fenced, causes, -, pins, -⟩ := (s.updateOpenStop fun i => { i with outcome := some .abandoned }).fence_ite
    restart .restart ((s.updateOpenStop fun i => { i with outcome := some .abandoned }).fenceIncident .restart)
  have hfenced : u.fence.fenced = (s.fence.fenced || restart) := fenced
  have hcauses : u.fence.causes = s.fence.causes ||| (if restart then FenceCause.restart.bit else 0) := causes
  have hpins : u.pins = s.pins := pins
  have apart : ∀ (k : BitVec 5) (b : Bool),
      ((k ||| if b then FenceCause.restart.bit else 0) &&& FenceCause.line.bit != 0) =
        (k &&& FenceCause.line.bit != 0) := by
    intro k b
    cases b <;> revert k <;> decide
  have line : u.fence.hasCause .line = s.fence.hasCause .line := by
    rw [Fence.hasCause, hcauses]
    exact apart _ _
  obtain ⟨followed, caused⟩ := u.followLine_fence
  rw [hfenced, hpins, line] at followed
  rw [hcauses, hpins] at caused
  refine ⟨followed, rfl, caused.trans ?_⟩
  split
  · rw [BitVec.or_assoc, BitVec.or_comm (_ : BitVec 5) FenceCause.line.bit, ← BitVec.or_assoc]
  · rfl

/-- The start fence causes of a POWER_ON (R175). -/
theorem State.startFencesPowerOn_fence (h : s.fence = Fence.start) :
    let f := s.startFencesPowerOn.fence
    f.fenced = (s.config.fenceAtPowerOn || s.pins.fenceAsserted) ∧
    f.causes = (if s.config.fenceAtPowerOn then FenceCause.powerOn.bit else 0) |||
      (if s.pins.fenceAsserted then FenceCause.line.bit else 0) := by
  intro f
  obtain ⟨fenced, causes, -, pins, -⟩ := s.fence_ite s.config.fenceAtPowerOn .powerOn (s.fenceIncident .powerOn)
  let u := if s.config.fenceAtPowerOn then s.takeFenceCause .powerOn (s.fenceIncident .powerOn) else s
  obtain ⟨fenced', causes', -⟩ := u.fence_ite u.pins.fenceAsserted .line (u.fenceIncident .line)
  have hpins : u.pins = s.pins := pins
  have hfenced : u.fence.fenced = s.config.fenceAtPowerOn := by
    refine fenced.trans ?_
    rw [h]
    rfl
  have hcauses : u.fence.causes = if s.config.fenceAtPowerOn then FenceCause.powerOn.bit else 0 := by
    refine causes.trans ?_
    rw [h]
    exact BitVec.zero_or
  rw [hfenced, hpins] at fenced'
  rw [hcauses, hpins] at causes'
  have followed : f = (if s.pins.fenceAsserted then u.takeFenceCause .line (u.fenceIncident .line) else u).fence := by
    rw [← hpins]
    rfl
  rw [followed]
  exact ⟨fenced', causes'⟩

/-- What the start fence causes leave alone (R30). -/
theorem State.startFences_keeps (s : State) :
    s.startFences.config = s.config ∧ s.startFences.loader = s.loader ∧
    s.startFences.guardTime = s.guardTime ∧ s.startFences.startKind = s.startKind ∧
    s.startFences.admissions = s.admissions ∧ s.startFences.slots = s.slots := by
  have power (s : State) : s.startFencesPowerOn.config = s.config ∧ s.startFencesPowerOn.loader = s.loader ∧
      s.startFencesPowerOn.guardTime = s.guardTime ∧ s.startFencesPowerOn.startKind = s.startKind ∧
      s.startFencesPowerOn.admissions = s.admissions ∧ s.startFencesPowerOn.slots = s.slots := by
    unfold State.startFencesPowerOn
    dsimp only
    split <;> split <;> simp
  have restart (s : State) : s.takeRestart.config = s.config ∧ s.takeRestart.loader = s.loader ∧
      s.takeRestart.guardTime = s.guardTime ∧ s.takeRestart.startKind = s.startKind ∧
      s.takeRestart.admissions = s.admissions ∧ s.takeRestart.slots = s.slots := by
    unfold State.takeRestart
    split <;> simp
  have line (s : State) : s.followLine.config = s.config ∧ s.followLine.loader = s.loader ∧
      s.followLine.guardTime = s.guardTime ∧ s.followLine.startKind = s.startKind ∧
      s.followLine.admissions = s.admissions ∧ s.followLine.slots = s.slots := by
    unfold State.followLine
    split
    · split <;> simp
    · split <;> simp
  have reset (s : State) : s.startFencesLineReset = (((s.updateOpenStop fun i =>
      { i with outcome := some .abandoned }).takeRestart.followLine.updateOpenStop fun i =>
        { i with status := .closed }).onFence fun f => { f with marker := false }) := rfl
  unfold State.startFences
  split
  · rw [reset]
    simp [State.updateOpenStop, restart, line]
  · exact power s

/-- While OFFLINE the start fence causes leave the membership unit. -/
theorem State.startFences_membership (h : s.membership.state = .offline) :
    s.startFences.membership = s.membership := by
  have taken {s : State} (h : s.membership.state = .offline) (b : Bool) (c : FenceCause) (i : Incident) :
      (if b then s.takeFenceCause c i else s).membership = s.membership := by
    cases b with
    | true => exact State.takeFenceCause_membership h c i
    | false => rfl
  have line {s : State} (h : s.membership.state = .offline) : s.followLine.membership = s.membership := by
    unfold State.followLine
    split
    · split <;> simp
    · exact taken h s.pins.fenceAsserted .line _
  unfold State.startFences
  split
  · let u := s.post .restart none none none StartKind.lineReset.code
    have restarted := taken (s := u.updateOpenStop fun i => { i with outcome := some .abandoned })
      (by simpa [u, State.updateOpenStop] using h) (u.fence.marker && u.config.fenceAfterLineReset) .restart
      ((u.updateOpenStop fun i => { i with outcome := some .abandoned }).fenceIncident .restart)
    exact (line (restarted ▸ h)).trans restarted
  · have power := taken h s.config.fenceAtPowerOn .powerOn (s.fenceIncident .powerOn)
    exact (taken (power ▸ h) _ .line _).trans power

/-- Acceptance, as the fence causes and then the controller (R30). -/
theorem State.readImage_of_accepted {bytes : List Byte} {n : Nat} {g : Settings} (hp : s.phase = .starting)
    (hl : s.loader = .reading n) (hd : imageDelivered bytes = true) (hg : imageSettings bytes = some g) :
    s.readImage bytes =
      ((((s.setConfig g).setLoader .idle).setPhase .running).startFences).enableAndJoin s.startKind := by
  simp only [State.readImage, hp, hl, hd, hg, if_true]
  rfl

theorem State.readImage_of_rejected {bytes : List Byte} {n : Nat} (hp : s.phase = .starting)
    (hl : s.loader = .reading n) (hd : imageDelivered bytes = true) (hg : imageSettings bytes = none) :
    s.readImage bytes = s.rejectImage := by
  simp only [State.readImage, hp, hl, hd, hg, if_true]

/-- Settles O27: the fence unit by the start kind, then the controller enabled. -/
theorem imageRead : Obligations.ImageRead := by
  unfold Obligations.ImageRead
  intro s bytes n hp hl hd
  refine ⟨fun hg => congrArg finish (State.readImage_of_rejected hp hl hd hg), fun g hg hm => ?_⟩
  let u := ((s.setConfig g).setLoader .idle).setPhase .running
  have read : exec (.imageReadDone bytes) s = .next (u.startFences.enableAndJoin s.startKind).drive :=
    congrArg finish (State.readImage_of_accepted hp hl hd hg)
  obtain ⟨config, loader, guardTime, startKind, admissions, slots⟩ :
      u.startFences.config = g ∧ u.startFences.loader = .idle ∧ u.startFences.guardTime = s.guardTime ∧
      u.startFences.startKind = s.startKind ∧ u.startFences.admissions = s.admissions ∧
      u.startFences.slots = s.slots := u.startFences_keeps
  have phase : u.startFences.phase = .running := u.startFences_phase
  have membership : u.startFences.membership = s.membership := u.startFences_membership hm
  have fence : (u.startFences.enableAndJoin s.startKind).drive.fence = u.startFences.fence := by simp
  refine ⟨_, read, ?_, ?_, ?_, ?_, ?_, ?_, ?_, ?_, ?_, fun hk hf => ?_, fun hk => ?_⟩
  · simpa using config
  · simpa using phase
  · simpa using loader
  · simpa using guardTime
  · simpa using startKind
  · simpa using admissions
  · simpa using slots
  · simp [membership]
  · simp only [State.drive_keeps, State.enableAndJoin_eq, State.onMembership_bus, State.joinQueue,
      State.onBus_bus, config]
    rfl
  · have started : u.startFences = u.startFencesPowerOn := by
      simp only [State.startFences, show u.startKind = .powerOn from hk]
    rw [fence, started]
    exact State.startFencesPowerOn_fence (s := u) hf
  · let w := u.post .restart none none none StartKind.lineReset.code
    have started : u.startFences = w.startFencesLineReset := by
      simp only [State.startFences, show u.startKind = .lineReset from hk, w]
    obtain ⟨fenced, marker, causes⟩ := w.startFencesLineReset_fence
    rw [fence, started]
    exact ⟨fenced, marker, fun ha => causes.trans (if_pos ha), fun ha =>
      causes.trans (if_neg (Bool.eq_false_iff.mp ha))⟩

end

end Sys2Proof.Machine

/-!
PROOF. The backbone controller: receiving and the acceptance rule (R8, R10), arbitration and the echo
(R4, R12), the waiting REVOKE_DOMAIN and the reply segmenter (R13, R156), errors, bus loss and bus
return (R15, R16, R43, R159).
-/

namespace Sys2Proof.Machine

/-! ## Station addresses and source classes (R5) -/

theorem domainOf_eq_some {a : Byte} {d : Domain} : domainOf a = some d ↔ a = guardAddress d := by
  refine ⟨fun h => ?_, fun h => h ▸ domainOf_guardAddress d⟩
  unfold domainOf at h
  split at h
  · split at h
    · obtain rfl := Option.some.inj h
      unfold guardAddress
      apply BitVec.eq_of_toNat_eq
      simp only [BitVec.toNat_add, BitVec.toNat_ofNat]
      omega
    · cases h
  · cases h

theorem testerOf_eq_some {a : Byte} {t : Tester} : testerOf a = some t ↔ a = testerAddress t := by
  refine ⟨fun h => ?_, fun h => h ▸ testerOf_testerAddress t⟩
  unfold testerOf at h
  split at h
  · split at h
    · obtain rfl := Option.some.inj h
      unfold testerAddress
      apply BitVec.eq_of_toNat_eq
      simp only [BitVec.toNat_add, BitVec.toNat_ofNat]
      omega
    · cases h
  · cases h

theorem domainOf_testerAddress (t : Tester) : domainOf (testerAddress t) = none := by
  revert t; decide

theorem sourceClass_eq_tester {g : Settings} {a : Byte} {t : Tester} :
    sourceClass g a = .tester t ↔ a = testerAddress t := by
  constructor
  · intro h
    unfold sourceClass at h
    split at h
    · split at h
      · cases h
      · split at h <;> cases h
    · split at h
      next u hu => cases h; exact testerOf_eq_some.mp hu
      next => cases h
  · rintro rfl
    simp [sourceClass, domainOf_testerAddress]

theorem sourceClass_eq_peer {g : Settings} {a : Byte} {d : Domain} :
    sourceClass g a = .peer d ↔
      a = guardAddress d ∧ d ≠ g.ownDomain ∧ inSet d g.domainMap = true := by
  constructor
  · intro h
    unfold sourceClass at h
    split at h
    next e he =>
      split at h
      · cases h
      next own =>
        split at h
        next fitted => cases h; exact ⟨domainOf_eq_some.mp he, own, fitted⟩
        next => cases h
    next => split at h <;> cases h
  · rintro ⟨rfl, own, fitted⟩
    simp [sourceClass, own, fitted]

/-! ## The acceptance rule (R8) -/

section
variable {g : Settings} {x : Frame}

/-- A guard kind, as the acceptance rule asks for one. -/
theorem Frame.isSort_eq_true {p : FrameKind → Bool} :
    x.isSort p = true ↔ ∃ k, x.kind? = some k ∧ p k = true := by
  unfold Frame.isSort
  cases x.kind? <;> simp

theorem Frame.isSort_eq_false {p : FrameKind → Bool} :
    x.isSort p = false ↔ ∀ k, x.kind? = some k → p k = false := by
  unfold Frame.isSort
  cases x.kind? <;> simp

theorem targetsOwnOrAll_eq_false {a : Byte} :
    targetsOwnOrAll g a = false ↔ a ≠ guardAddress g.ownDomain ∧ a ≠ 0xFF#8 := by
  simp [targetsOwnOrAll]

/-- What the rule does with a fitted peer's frame (R8). -/
theorem acceptance_of_peer {d : Domain} (h : sourceClass g x.source = .peer d) :
    acceptance g x =
      if x.isSort FrameKind.guardKind then .keep
      else if targetsOwnOrAll g x.target then .dropCounted else .ignore := by
  unfold acceptance Frame.isSort
  rw [h]
  cases x.kind? <;> rfl

theorem acceptance_of_tester {t : Tester} (h : sourceClass g x.source = .tester t) :
    acceptance g x = .keep := by
  simp [acceptance, h]

theorem acceptance_of_strange (ht : ∀ t, sourceClass g x.source ≠ .tester t)
    (hd : ∀ d, sourceClass g x.source ≠ .peer d) : acceptance g x = .dropCounted := by
  unfold acceptance
  cases h : sourceClass g x.source with
  | own | foreign => rfl
  | peer d => exact absurd h (hd d)
  | tester t => exact absurd h (ht t)

theorem acceptance_eq_keep :
    acceptance g x = .keep ↔
      (∃ t, sourceClass g x.source = .tester t) ∨
      (∃ d, sourceClass g x.source = .peer d) ∧ x.isSort FrameKind.guardKind = true := by
  cases h : sourceClass g x.source with
  | tester t => simp [acceptance_of_tester h]
  | peer d =>
    rw [acceptance_of_peer h]
    split
    · simp [*]
    · split <;> simp [*]
  | own | foreign => simp [acceptance_of_strange (g := g) (x := x) (by simp [h]) (by simp [h])]

theorem acceptance_eq_ignore :
    acceptance g x = .ignore ↔
      (∃ d, sourceClass g x.source = .peer d) ∧ x.isSort FrameKind.guardKind = false ∧
        targetsOwnOrAll g x.target = false := by
  cases h : sourceClass g x.source with
  | tester t => simp [acceptance_of_tester h]
  | peer d =>
    rw [acceptance_of_peer h]
    split
    · simp [*]
    · split <;> simp [*]
  | own | foreign => simp [acceptance_of_strange (g := g) (x := x) (by simp [h]) (by simp [h])]

end

/-! ## Receiving (R8, R10) -/

section
variable {s : State} {f : BusFrame}

/-- The receive error count falls as a frame completes (R15). -/
def State.frameCompleted (s : State) : State :=
  s.onBus fun b => { b with rxErrors := b.rxErrors - 1 }

theorem exec_frameReceived (h : s.onBackbone = true) :
    exec (.frameReceived f) s = finish (
      match f.format with
      | .base | .remote => s.frameCompleted
      | .classicExtended | .fdExtended =>
        match acceptance s.config (Frame.ofIdent f.ident f.payload) with
        | .keep => s.frameCompleted.storeFrame (Frame.ofIdent f.ident f.payload)
        | .dropCounted => s.frameCompleted.count Counter.foreignFrames
        | .ignore => s.frameCompleted) :=
  congrArg finish (if_pos h)

theorem exec_frameReceived_of_extended (h : s.onBackbone = true)
    (hf : f.format = .classicExtended ∨ f.format = .fdExtended) :
    exec (.frameReceived f) s = finish (
      match acceptance s.config (Frame.ofIdent f.ident f.payload) with
        | .keep => s.frameCompleted.storeFrame (Frame.ofIdent f.ident f.payload)
        | .dropCounted => s.frameCompleted.count Counter.foreignFrames
        | .ignore => s.frameCompleted) := by
  rw [exec_frameReceived h]
  cases hf with
  | inl hf => rw [hf]
  | inr hf => rw [hf]

end

/-- Settles O29: the branches of the received frame, and the acceptance rule by source class. -/
theorem frameReceived : Obligations.FrameReceived := by
  unfold Obligations.FrameReceived
  refine ⟨fun s f on => ⟨fun base => ?_, fun extended => ⟨fun ignored => ?_, fun dropped => ?_,
    fun kept room => ?_, fun kept full => ?_⟩⟩, fun g x => ⟨?_, ?_⟩⟩
  · rw [exec_frameReceived on]
    cases base with
    | inl base => rw [base]; rfl
    | inr base => rw [base]; rfl
  · rw [exec_frameReceived_of_extended on extended, ignored]
    rfl
  · rw [exec_frameReceived_of_extended on extended, dropped]
    rfl
  · rw [exec_frameReceived_of_extended on extended, kept]
    exact congrArg finish (if_pos (decide_eq_true room))
  · rw [exec_frameReceived_of_extended on extended, kept]
    exact congrArg finish (if_neg fun room => absurd (of_decide_eq_true room) (Nat.not_lt.mpr full))
  · rw [acceptance_eq_keep]
    simp only [sourceClass_eq_tester, sourceClass_eq_peer, Frame.isSort_eq_true]
    refine or_congr_right ⟨fun ⟨⟨d, src, own, fitted⟩, kind⟩ => ⟨d, src, own, fitted, kind⟩,
      fun ⟨d, src, own, fitted, kind⟩ => ⟨⟨d, src, own, fitted⟩, kind⟩⟩
  · rw [acceptance_eq_ignore]
    simp only [sourceClass_eq_peer, Frame.isSort_eq_false, targetsOwnOrAll_eq_false]

/-! ## Sending (R4, R12, R13, R156) -/

section
variable {q : List TxEntry}

/-- The test by which an entry is chosen: no other has a lower urgency value (R12). -/
theorem chooseEntry_eq_some {i : Nat} (h : chooseEntry q = some i) :
    ∃ e, q[i]? = some e ∧ (∀ x ∈ q, e.frame.urgency.toNat ≤ x.frame.urgency.toNat) ∧
      ∀ j x, q[j]? = some x → j < i → ∃ y ∈ q, y.frame.urgency.toNat < x.frame.urgency.toNat := by
  obtain ⟨hi, least, first⟩ := List.findIdx?_eq_some_iff_getElem.mp h
  refine ⟨q[i], List.getElem?_eq_getElem hi, by simpa using least, fun j x hx hj => ?_⟩
  have higher := first j hj
  obtain ⟨_, rfl⟩ := List.getElem?_eq_some_iff.mp hx
  simpa using higher

theorem chooseEntry_eq_none : chooseEntry q = none ↔ q = [] := by
  refine ⟨fun h => ?_, fun h => h ▸ rfl⟩
  by_contra filled
  obtain ⟨e, he, least⟩ := q.toFinset.exists_min_image (fun e => e.frame.urgency.toNat)
    (List.toFinset_nonempty_iff q |>.mpr filled)
  have passed := List.findIdx?_eq_none_iff.mp h e (List.mem_toFinset.mp he)
  simp only [List.all_eq_false, decide_eq_true_eq, Nat.not_le] at passed
  obtain ⟨x, hx, lower⟩ := passed
  exact absurd (least x (List.mem_toFinset.mpr hx)) (Nat.not_le.mpr lower)

end

section
variable {s : State}

theorem State.revokeCanJoin_of_found (on : s.onBackbone = true) (room : s.bus.txQueue.length < 24)
    {c : Clearing} (found : s.membership.outstanding.find? (fun c => c.progress == .waiting) = some c) :
    s.revokeCanJoin = true := by
  have waiting : (c.progress == .waiting) = true :=
    List.find?_some (p := fun c : Clearing => c.progress == .waiting) found
  have waits : s.revokeWaits = true :=
    List.any_eq_true.mpr ⟨c, List.mem_of_find?_eq_some found, waiting⟩
  simp [State.revokeCanJoin, on, waits, State.roomForProtocol, room, Config.txEntries]

theorem State.joinWaitingRevoke_of_found (can : s.revokeCanJoin = true) {c : Clearing}
    (found : s.membership.outstanding.find? (fun c => c.progress == .waiting) = some c) :
    s.joinWaitingRevoke = (s.joinQueue (s.revokeFrame c.reason) 0).onMembership fun m =>
      { m with outstanding := queueWaiting m.outstanding } := by
  rw [State.joinWaitingRevoke, if_pos can, found]

theorem State.startArbitration_of_free (on : s.onBackbone = true) (idle : s.bus.sending = none)
    (room : s.bus.rxFifo.length < 32) (no : s.revokeCanJoin = false) :
    s.startArbitration = s.onBus fun b => { b with sending := chooseEntry b.txQueue } := by
  unfold State.startArbitration
  exact if_pos (by simp [on, idle, room, no, Config.rxPlaces])

theorem State.completeOwn_of_sending (on : s.onBackbone = true) {i : Nat} {e : TxEntry}
    (hi : s.bus.sending = some i) (he : s.bus.txQueue[i]? = some e) :
    s.completeOwn = (s.onBus fun b => { b with
      txErrors := b.txErrors - 1
      rxFifo := b.rxFifo ++ [⟨e.frame, true, e.blocks⟩]
      txQueue := b.txQueue.eraseIdx i
      sending := none }).noteCompleted e.frame.kind? := by
  rw [State.completeOwn, if_pos on, hi]
  simp only [he]

theorem State.offerSegment_of_answer (on : s.onBackbone = true) (room : s.roomForTester = true)
    (waits : s.revokeWaits = false) {a : Answer} {others : List Answer}
    (replies : s.memory.replies = a :: others) :
    s.offerSegment = (s.joinQueue (testerFrame s.config.ownDomain a.kind a.tester a.payload)
      (blocksOfSegment a.data.length a.next)).onMemory fun m =>
        { m with replies := advanceReplies m.replies } := by
  rw [State.offerSegment, if_pos (by simp [on, room, waits]), replies]

end

/-- Settles O30: each command takes its branch; the chosen entry is the first of least urgency value. -/
theorem sending : Obligations.Sending := by
  unfold Obligations.Sending
  refine ⟨fun s on => ⟨fun idle room no => ?_, ?_, fun i e hi he => ?_, fun c room found => ?_,
    fun a others room waits replies => ?_⟩, fun q i h => ?_, fun q => chooseEntry_eq_none⟩
  · exact congrArg finish (State.startArbitration_of_free on idle room no)
  · exact congrArg finish (if_pos on)
  · exact congrArg finish (State.completeOwn_of_sending on hi he)
  · exact congrArg finish
      (State.joinWaitingRevoke_of_found (State.revokeCanJoin_of_found on room found) found)
  · refine (congrArg finish (State.offerSegment_of_answer on room waits replies)).trans ?_
    simp only [State.onMemory, State.joinQueue, State.onBus, replies, advanceReplies]
    rfl
  · obtain ⟨e, he, least, first⟩ := chooseEntry_eq_some h
    refine ⟨e, he, fun j x hx => ⟨least x (List.mem_of_getElem? hx), fun same => ?_⟩⟩
    by_contra earlier
    obtain ⟨y, hy, lower⟩ := first j x hx (Nat.not_le.mp earlier)
    exact absurd (least y hy) (Nat.not_le.mpr (same ▸ lower))

/-! ## Bus loss and bus return (R15, R16, R43, R44, R159) -/

/-- An entry posted counts nothing (R188, R189). -/
theorem Trail.post_counters (t : Trail) (e : TrailEntry) (drain : Option Nat) :
    (t.post e drain).counters = t.counters := by
  unfold Trail.post
  split
  · split <;> rfl
  · rfl
  · rfl

/-- Entries that are removed without an answer leave the bus and the trail as they stand. -/
theorem State.removeEntries_silent (s : State) (p : QueueEntry → Bool) :
    (s.removeEntries p none).bus = s.bus ∧ (s.removeEntries p none).trail = s.trail :=
  ⟨foldl_keeps State.bus (fun s e => s.entryGone none e) (fun _ _ => rfl) (s.delivery.queue.filter p)
      (s.onDelivery fun d => { d with queue := d.queue.filter fun e => !p e }),
    foldl_keeps State.trail (fun s e => s.entryGone none e) (fun _ _ => rfl) (s.delivery.queue.filter p)
      (s.onDelivery fun d => { d with queue := d.queue.filter fun e => !p e })⟩

/-- The bus-loss event in every unit but the service slot (R15, R43, R76, R81, R159). -/
def State.busLossOutside (s : State) : State :=
  ((((s.enterBusOff.onMembership Membership.busLoss).onHold Hold.busLoss).onMemory
    Memory.busLoss).removeEntries (fun _ => true) none)

/-- What the bus-loss event leaves, whatever the service slot holds (R15, R43, R76, R81, R159). -/
structure BusLost (s u : State) : Prop where
  bus : u.bus = { s.bus with mode := .busOff, rxFifo := [], txQueue := [], sending := none }
  membership : u.membership = s.membership.busLoss
  lanes : u.memory.lanes = Vector.replicate 14 .free
  replies : u.memory.replies = []
  queue : u.delivery.queue = []
  lastStamp : u.delivery.lastStamp = s.delivery.lastStamp
  reservations : u.hold.reservations = []
  nextSeq : u.hold.nextSeq = s.hold.nextSeq
  view : u.hold.view.map Record.replicated = s.hold.view.map Record.replicated
  marks : ∀ r ∈ u.hold.view, r.breakSent = false ∧ r.cancelSent = false
  admissions : u.admissions = s.admissions
  counters : u.trail.counters = s.trail.counters
  slots : u.slots = s.slots
  config : u.config = s.config

/-- Before the service slot hears of it, the event has left the slot and the fence unit as they stood. -/
theorem State.busLossOutside_effect (s : State) :
    BusLost s s.busLossOutside ∧ s.busLossOutside.delivery.service = s.delivery.service ∧
      s.busLossOutside.fence = s.fence ∧ s.busLossOutside.guardTime = s.guardTime := by
  have removed := State.removeEntries_effect (((s.enterBusOff.onMembership Membership.busLoss).onHold
    Hold.busLoss).onMemory Memory.busLoss) (fun _ => true) none
  have silent := State.removeEntries_silent (((s.enterBusOff.onMembership Membership.busLoss).onHold
    Hold.busLoss).onMemory Memory.busLoss) fun _ => true
  obtain ⟨delivery, lanes, replies⟩ := removed
  obtain ⟨bus, trail⟩ := silent
  have hold : s.busLossOutside.hold = s.hold.busLoss := by
    simp [State.busLossOutside, State.enterBusOff]
  refine ⟨⟨bus, by simp [State.busLossOutside, State.enterBusOff], lanes, replies, ?_, ?_, ?_, ?_, ?_, ?_,
    by simp [State.busLossOutside, State.enterBusOff], ?_, by simp [State.busLossOutside, State.enterBusOff],
    by simp [State.busLossOutside, State.enterBusOff]⟩, ?_,
    by simp [State.busLossOutside, State.enterBusOff], by simp [State.busLossOutside, State.enterBusOff]⟩
  · exact (congrArg Delivery.queue delivery).trans (by simp)
  · exact (congrArg Delivery.lastStamp delivery).trans rfl
  · rw [hold]; rfl
  · rw [hold]; rfl
  · rw [hold]; exact Hold.busLoss_replicated _
  · rw [hold]
    intro r hr
    obtain ⟨r', _, rfl⟩ := List.mem_map.mp hr
    exact ⟨rfl, rfl⟩
  · exact congrArg Trail.counters trail
  · exact (congrArg Delivery.service delivery).trans rfl

theorem State.busLoss_eq (s : State) : s.busLoss = s.busLossOutside.busLossInService := rfl

theorem State.updateRecord_marks {s : State} {f : Record → Record}
    (hf : ∀ r, (f r).breakSent = r.breakSent ∧ (f r).cancelSent = r.cancelSent) (id : ClaimId)
    (h : ∀ r ∈ s.hold.view, r.breakSent = false ∧ r.cancelSent = false) :
    ∀ r ∈ (s.updateRecord id f).hold.view, r.breakSent = false ∧ r.cancelSent = false := by
  intro r hr
  obtain ⟨w, hw, rfl⟩ := List.mem_map.mp hr
  split
  · rw [(hf w).1, (hf w).2]; exact h w hw
  · exact h w hw

namespace BusLost

section
variable {s u : State}

/-- A read request that leaves the slot (R159). -/
theorem leaveSlot (h : BusLost s u) {v : Service} (read : v.cls.effecting = false) :
    BusLost s (u.leaveSlot v) := by
  obtain ⟨_, queue, lastStamp, _, lanes, replies⟩ := u.leaveSlot_effect v
  have hold : (u.leaveSlot v).hold = u.hold := by simp [State.leaveSlot, State.emptySlot, read]
  exact ⟨by simpa using h.bus, by simpa using h.membership, lanes.trans h.lanes, replies.trans h.replies,
    queue.trans h.queue, lastStamp.trans h.lastStamp, hold ▸ h.reservations, hold ▸ h.nextSeq,
    hold ▸ h.view, hold ▸ h.marks, by simpa using h.admissions, by simpa using h.counters,
    by simpa using h.slots, by simpa using h.config⟩

/-- An effecting request that is asked a stop order (R159, R161). -/
theorem issueStop (h : BusLost s u) (v : Service) (c : StopCause) : BusLost s (u.issueStopFor v c) := by
  obtain ⟨_, _, _, delivery⟩ := u.issueStopFor_fence v c
  have hold := u.issueStopFor_hold v c
  have counters : (u.issueStopFor v c).trail.counters = u.trail.counters :=
    (congrArg Trail.counters (u.issueStopFor_trail v c)).trans (Trail.post_counters _ _ _)
  have view := u.issueStopFor_view v c
  have replicated : (u.issueStopFor v c).hold.view.map Record.replicated =
      u.hold.view.map Record.replicated := by
    rw [view]
    exact State.updateSponsor_replicated u v.claim _
  have marks : ∀ r ∈ (u.issueStopFor v c).hold.view, r.breakSent = false ∧ r.cancelSent = false := by
    rw [view]
    exact State.updateRecord_marks (f := fun r => r.onSponsor fun p => { p with op := .stopping })
      (fun _ => ⟨rfl, rfl⟩) v.claim h.marks
  exact ⟨by simpa using h.bus, by simpa using h.membership, by simpa using h.lanes,
    by simpa using h.replies, delivery ▸ h.queue, delivery ▸ h.lastStamp, hold ▸ h.reservations,
    hold ▸ h.nextSeq, replicated.trans h.view, marks,
    by simpa using h.admissions, counters.trans h.counters, by simpa using h.slots,
    by simpa using h.config⟩

end

end BusLost

/-- What the bus-loss event does with the request in service (R159): a read request leaves, an effecting
one is asked a stop order, and an order that is outstanding stands. -/
structure ServiceLost (s u : State) : Prop where
  read : ∀ v, s.delivery.service = some v → v.cls.effecting = false → u.delivery.service = none
  effecting : ∀ v, s.delivery.service = some v → v.cls.effecting = true → s.fence.stop = none →
    u.delivery.service = some { v with limit := none } ∧ u.fence.stop = some (s.stopOrderFor v .busLoss)
  outstanding : ∀ o, s.fence.stop = some o → u.fence.stop = some o

theorem State.busLoss_effect (s : State) : BusLost s s.busLoss ∧ ServiceLost s s.busLoss := by
  obtain ⟨lost, service, fence, time⟩ := s.busLossOutside_effect
  rw [State.busLoss_eq]
  cases hv : s.delivery.service with
  | none =>
    have same : s.busLossOutside.busLossInService = s.busLossOutside := by
      simp [State.busLossInService, service, hv]
    rw [same]
    exact ⟨lost, by simp [hv], by simp [hv], fun o ho => fence ▸ ho⟩
  | some v =>
    rw [hv] at service
    cases he : v.cls.effecting with
    | false =>
      have left : s.busLossOutside.busLossInService = s.busLossOutside.leaveSlot v := by
        simp [State.busLossInService, service, he]
      rw [left]
      exact ⟨lost.leaveSlot he, fun _ _ _ => (State.leaveSlot_effect _ v).1, by simp [hv, he],
        fun o ho => by simpa [fence] using ho⟩
    | true =>
      have asked : s.busLossOutside.busLossInService = s.busLossOutside.askStop .busLoss := by
        simp [State.busLossInService, service, he]
      rw [asked]
      cases ho : s.fence.stop with
      | some o =>
        rw [State.askStop_of_not_asked service (.inr (by simp [fence, ho]))]
        exact ⟨lost, by simp [hv, he], by simp [ho], fun o' ho' => fence ▸ ho'⟩
      | none =>
        rw [State.askStop_of_issued service he (by rw [fence, ho])]
        obtain ⟨_, _, order, delivery⟩ := State.issueStopFor_fence s.busLossOutside v .busLoss
        refine ⟨lost.issueStop v .busLoss, by simp [hv, he], fun w hw _ _ => ?_, by simp [ho]⟩
        obtain rfl := Option.some.inj (hv.symm.trans hw)
        refine ⟨by rw [delivery, service]; rfl, order.trans ?_⟩
        rw [State.stopOrderFor, State.stopOrderFor, State.startTimer, State.startTimer, time, lost.config]

/-- An error while the guard transmits, counted (R15). -/
def State.transmitCounted (s : State) : State :=
  s.onBus fun b => { b with txErrors := b.txErrors + 8 }

theorem State.transmitError_of_sending {s : State} (on : s.onBackbone = true)
    (sending : s.bus.sending.isSome = true) :
    s.transmitError =
      if 255 < s.bus.txErrors + 8 then s.transmitCounted.busLoss else s.transmitCounted := by
  rw [State.transmitError, if_pos (by simp [on, sending])]
  rfl

/-- Settles O31: the counters by the branch taken; at bus loss, what each unit is left with, then what
becomes of the request in service. -/
theorem busErrorsAndReturn : Obligations.BusErrorsAndReturn := by
  unfold Obligations.BusErrorsAndReturn
  refine ⟨fun s on => ⟨congrArg finish (if_pos on), fun sending low => ?_, fun sending high => ?_⟩,
    fun s running off => congrArg finish (if_pos ⟨running, off⟩)⟩
  · exact congrArg finish
      ((State.transmitError_of_sending on sending).trans (if_neg (Nat.not_lt.mpr low)))
  · have lost : s.transmitError = s.transmitCounted.busLoss :=
      (State.transmitError_of_sending on sending).trans (if_pos high)
    obtain ⟨outside, service⟩ := s.transmitCounted.busLoss_effect
    exact ⟨_, congrArg finish lost, outside.bus, outside.membership, outside.lanes, outside.replies,
      outside.queue, outside.lastStamp, outside.reservations, outside.nextSeq, outside.view,
      outside.marks, service.read, service.effecting, service.outstanding, outside.admissions,
      outside.counters, outside.slots, outside.config⟩

end Sys2Proof.Machine

/-!
PROOF. JOIN, PRESENT and REVOKE_DOMAIN passages (R34, R37, R38, R40 to R42), and what a clearing frame
removes (R133).
-/

namespace Sys2Proof.Machine

/-! ## What a clearing frame removes (R133) -/

section
variable (s : State)

theorem State.askStop_hold (cause : StopCause) :
    (s.askStop cause).hold.view.map Record.replicated = s.hold.view.map Record.replicated ∧
    (s.askStop cause).hold.reservations = s.hold.reservations := by
  unfold State.askStop
  split
  next v _ _ =>
    split
    · exact ⟨by rw [State.issueStopFor_view]; exact State.updateSponsor_replicated s v.claim _,
        by rw [State.issueStopFor_hold]; rfl⟩
    · exact ⟨rfl, rfl⟩
  · exact ⟨rfl, rfl⟩

theorem State.handClaimChange_hold (id : ClaimId) (stop : Option StopCause) (b : Byte) :
    (s.handClaimChange id stop b).hold.view.map Record.replicated =
      s.hold.view.map Record.replicated ∧
    (s.handClaimChange id stop b).hold.reservations = s.hold.reservations := by
  unfold State.handClaimChange
  simp only [State.removeEntries_keeps]
  split
  · split
    · exact State.askStop_hold s _
    · exact ⟨rfl, rfl⟩
  · exact ⟨rfl, rfl⟩

/-- A record that ends leaves the replicated fields of the others (R125, R126). -/
theorem State.endRecord_hold (r : Record) (b : Byte) :
    (s.endRecord r b).hold.view.map Record.replicated =
      (s.hold.view.map Record.replicated).filter (fun x => x.1 != r.id) ∧
    (s.endRecord r b).hold.reservations = s.hold.reservations := by
  have removed : (s.removeRecord r.id).hold.view.map Record.replicated =
      (s.hold.view.map Record.replicated).filter (fun x => x.1 != r.id) := by
    rw [List.filter_map]
    rfl
  unfold State.endRecord
  dsimp only
  split
  · simp only [State.reportEnding, State.post_keeps, State.reportClaim, State.offerClaimStatus_keeps,
      State.claimNotice_keeps]
    obtain ⟨view, reservations⟩ := (s.removeRecord r.id).handClaimChange_hold r.id (some .endClaim)
      Reason.claimNotHeld
    exact ⟨view.trans removed, reservations⟩
  · exact ⟨removed, rfl⟩

theorem State.endRecords_hold (l : List Record) (b : Byte) :
    (l.foldl (fun s r => s.endRecord r b) s).hold.view.map Record.replicated =
      (s.hold.view.map Record.replicated).filter (fun x => l.all fun r => x.1 != r.id) ∧
    (l.foldl (fun s r => s.endRecord r b) s).hold.reservations = s.hold.reservations := by
  induction l generalizing s with
  | nil => simp
  | cons r l ih =>
    obtain ⟨view, reservations⟩ := s.endRecord_hold r b
    obtain ⟨views, kept⟩ := ih (s.endRecord r b)
    refine ⟨views.trans ?_, kept.trans reservations⟩
    rw [view, List.filter_filter]
    simp only [List.all_cons, Bool.and_comm]

end

theorem ViewWell.eq_of_id {own : Domain} {p : Phase} {h : Hold} (w : ViewWell own p h) {x y : Record}
    (hx : x ∈ h.view) (hy : y ∈ h.view) (he : x.id = y.id) : x = y := by
  have ids : (h.view.map Record.id).Nodup :=
    List.pairwise_map.mpr (w.ascending.imp fun hlt he => absurd (congrArg BitVec.toNat he) (Nat.ne_of_lt hlt))
  exact List.inj_on_of_nodup_map ids hx hy he

/-- In a sound view exactly the records whose scope holds the cleared domain go (R133). -/
theorem State.clearRecords_hold {s : State} (h : s.viewSound = true) (d : Domain) (b : Byte) :
    (s.clearRecords d b).hold.view.map Record.replicated =
      (s.hold.view.filter fun r => !(d == s.config.ownDomain || inSet d r.scope)).map Record.replicated ∧
    (s.clearRecords d b).hold.reservations = s.hold.reservations := by
  have well := (State.viewSound_iff s).mp h
  obtain ⟨view, reservations⟩ := s.endRecords_hold
    (s.hold.view.filter fun r => d == s.config.ownDomain || inSet d r.scope) b
  refine ⟨view.trans ?_, reservations⟩
  rw [List.filter_map]
  refine congrArg (List.map Record.replicated) (List.filter_congr fun x hx => ?_)
  rw [Bool.eq_iff_iff]
  simp only [Function.comp, List.all_eq_true, List.mem_filter, bne_iff_ne, Bool.not_eq_true']
  constructor
  · intro out
    by_contra held
    exact out x ⟨hx, by rwa [Bool.not_eq_false] at held⟩ rfl
  · rintro out r ⟨hr, held⟩ same
    obtain rfl := well.eq_of_id hx hr same
    simp [out] at held

/-! ## JOIN and PRESENT (R34, R37, R40, R41) -/

section
variable {s : State} {d : Domain} {p : List Byte}

theorem State.resyncAgain_of_outstanding (h : s.membership.outstanding ≠ []) : s.resyncAgain = s :=
  if_neg (by simpa using h)

theorem State.resyncAgain_of_alone (h : s.membership.outstanding = []) :
    s.resyncAgain = s.offerRevoke .resync :=
  if_pos (by simpa using h)

/-- The guard's own JOIN before the membership state follows (R37). -/
def State.ownJoinCleared (s : State) (d : Domain) (p : List Byte) : State :=
  ((s.leaveOutstanding true).setRoster d (word32At p 0) (StartKind.ofCode (byteAt p 5))).clearRecords
    s.config.ownDomain Reason.peerRestart

theorem State.ownJoin_of_covering (h : s.coveringPassage true = true) :
    s.ownJoin d p = (s.ownJoinCleared d p).setMember .member :=
  if_pos h

theorem State.ownJoin_of_uncovered (h : s.coveringPassage true = false) :
    s.ownJoin d p = ((s.ownJoinCleared d p).setMember .resync).resyncAgain :=
  if_neg (by simp [h])

theorem joinStart_of_domain (h : byteAt p 4 = nat8 d.val) :
    joinStart d p = StartKind.ofCode (byteAt p 5) :=
  if_pos (beq_iff_eq.mpr h)

theorem joinStart_eq_none :
    joinStart d p = none ↔ byteAt p 4 ≠ nat8 d.val ∨ StartKind.ofCode (byteAt p 5) = none := by
  by_cases h : byteAt p 4 = nat8 d.val
  · simp [joinStart_of_domain h, h]
  · simp [joinStart, domainFieldOk, h]

/-- The roster and the view as a peer's JOIN leaves them (R34, R40). -/
def State.peerJoinCleared (s : State) (d : Domain) (p : List Byte) (k : StartKind) : State :=
  (s.setRoster d (word32At p 0) (some k)).clearRecords d Reason.peerRestart

theorem State.peerJoin_of_start {k : StartKind} (h : joinStart d p = some k) :
    s.peerJoin d p =
      match s.membership.state with
      | .member => (s.peerJoinCleared d p k).offerPresent
      | .resync => (s.peerJoinCleared d p k).onMembership fun m => { m with presentOwed := true }
      | _ => s.peerJoinCleared d p k := by
  have same : (s.peerJoinCleared d p k).membership.state = s.membership.state := by
    rw [State.peerJoinCleared, State.clearRecords_membership]
    rfl
  rw [State.peerJoin, h, ← same]
  rfl

theorem State.peerJoin_of_malformed (h : joinStart d p = none) :
    s.peerJoin d p = s.count Counter.foreignFrames := by
  rw [State.peerJoin, h]

end

/-- Settles O34: each branch of the three passages; the roster entry as the definition writes it; and the
records that go, from the lemma on the removals. -/
theorem joinAndPresent : Obligations.JoinAndPresent := by
  unfold Obligations.JoinAndPresent
  refine ⟨fun s d p rest hh => ?_, fun s d p rest hh => ?_, fun s echo d p rest hh => ?_,
    fun s d x k => ?_, fun s d b h => State.clearRecords_hold h d b⟩
  · obtain ⟨e, he, rfl, -, -, act⟩ := State.guardPassage_of_head hh
    have passed (X : State) (h : s.popHead.ownJoin d e.frame.payload = X) :
        exec .ownJoinPassage s = .next X.drive := congrArg finish ((act _ _ he).trans h)
    refine ⟨fun covering => passed _ (State.ownJoin_of_covering covering),
      fun uncovered => ⟨fun others => ?_, fun alone => ?_⟩⟩
    · exact passed _ ((State.ownJoin_of_uncovered (s := s.popHead) uncovered).trans
        (State.resyncAgain_of_outstanding
          (s := (s.popHead.ownJoinCleared d e.frame.payload).setMember .resync) others))
    · exact passed _ ((State.ownJoin_of_uncovered (s := s.popHead) uncovered).trans
        (State.resyncAgain_of_alone
          (s := (s.popHead.ownJoinCleared d e.frame.payload).setMember .resync) alone))
  · obtain ⟨e, he, rfl, -, -, act⟩ := State.guardPassage_of_head hh
    have passed (X : State) (h : s.popHead.peerJoin d e.frame.payload = X) :
        exec .peerJoinPassage s = .next X.drive := congrArg finish ((act _ _ (by simp [he])).trans h)
    refine ⟨fun k dom start => ⟨fun member => ?_, fun resync => ?_, fun joining => ?_⟩,
      fun malformed => passed _ (State.peerJoin_of_malformed (joinStart_eq_none.mpr malformed))⟩
    all_goals
      refine passed _ ((State.peerJoin_of_start ((joinStart_of_domain dom).trans start)).trans ?_)
    · rw [show s.popHead.membership.state = .member from member]; rfl
    · rw [show s.popHead.membership.state = .resync from resync]; rfl
    · rw [show s.popHead.membership.state = .joining from joining]; rfl
  · obtain ⟨e, he, rfl, -, -, act⟩ := State.guardPassage_of_head hh
    have passed (X : State) (h : s.popHead.passPresent d e = X) :
        exec .presentPassage s = .next X.drive := congrArg finish ((act _ _ rfl).trans h)
    refine ⟨fun own => passed _ (if_pos (he.trans own)), fun peer dom => ?_, fun peer dom => ?_⟩
    · exact passed _ ((if_neg (by simp [he, peer])).trans (if_pos (beq_iff_eq.mpr dom)))
    · exact passed _ ((if_neg (by simp [he, peer])).trans (if_neg (by simpa [domainFieldOk] using dom)))
  · cases k <;> rfl

/-! ## REVOKE_DOMAIN (R38, R42) -/

section
variable {s : State} {d : Domain} {p : List Byte}

/-- The guard's own REVOKE_DOMAIN before the membership state follows (R38). -/
def State.ownRevokeCleared (s : State) (d : Domain) (p : List Byte) : State :=
  ((s.leaveOutstanding false).clearRecords s.config.ownDomain (byteAt p 1)).postRevokedDomain d
    (byteAt p 1)

theorem State.ownRevoke_eq :
    s.ownRevoke d p = (s.ownRevokeCleared d p).afterOwnRevoke (s.coveringPassage false) := rfl

theorem State.ownRevokeCleared_membership :
    (s.ownRevokeCleared d p).membership.state = s.membership.state ∧
    (s.ownRevokeCleared d p).membership.presentOwed = s.membership.presentOwed := by
  simp [State.ownRevokeCleared, State.postRevokedDomain, State.leaveOutstanding]

theorem State.afterOwnRevoke_of_settled (h : s.membership.state ≠ .resync) (covering : Bool) :
    s.afterOwnRevoke covering = s := by
  unfold State.afterOwnRevoke
  split
  · contradiction
  · rfl

theorem State.afterOwnRevoke_of_covering (h : s.membership.state = .resync) :
    s.afterOwnRevoke true =
      if s.membership.presentOwed then (s.setMember .member).offerPresent else s.setMember .member := by
  rw [State.afterOwnRevoke, h]
  rfl

theorem State.afterOwnRevoke_of_uncovered (h : s.membership.state = .resync) :
    s.afterOwnRevoke false = s.resyncAgain := by
  rw [State.afterOwnRevoke, h]
  rfl

theorem revokeOk_iff :
    revokeOk d p = true ↔
      byteAt p 0 = nat8 d.val ∧ (byteAt p 1 = Reason.revoked ∨ byteAt p 1 = Reason.resync) := by
  simp [revokeOk, domainFieldOk]

end

/-- Settles O35: each branch by the membership state and whether the passage is covering. -/
theorem revokePassages : Obligations.RevokePassages := by
  unfold Obligations.RevokePassages
  refine ⟨fun s d p rest hh => ?_, fun s d p rest hh => ?_, fun s => rfl⟩
  · obtain ⟨e, he, rfl, -, -, act⟩ := State.guardPassage_of_head hh
    have passed (X : State) (h : (s.popHead.ownRevokeCleared d e.frame.payload).afterOwnRevoke
        (s.coveringPassage false) = X) : exec .ownRevokeDomainPassage s = .next X.drive :=
      congrArg finish ((act _ _ he).trans h)
    obtain ⟨state, owed⟩ :=
      State.ownRevokeCleared_membership (s := s.popHead) (d := d) (p := e.frame.payload)
    refine ⟨fun settled => ?_, fun resync covering => ⟨fun no => ?_, fun yes => ?_⟩,
      fun resync uncovered => ⟨fun others => ?_, fun alone => ?_⟩⟩
    · exact passed _ (State.afterOwnRevoke_of_settled (by rw [state]; exact settled) _)
    all_goals have after := state.trans resync
    · refine passed _ ?_
      rw [covering, State.afterOwnRevoke_of_covering after]
      exact if_neg (by rw [owed]; simp [no])
    · refine passed _ ?_
      rw [covering, State.afterOwnRevoke_of_covering after]
      exact if_pos (owed.trans yes)
    · refine passed _ ?_
      rw [uncovered, State.afterOwnRevoke_of_uncovered after]
      exact State.resyncAgain_of_outstanding others
    · refine passed _ ?_
      rw [uncovered, State.afterOwnRevoke_of_uncovered after]
      exact State.resyncAgain_of_alone alone
  · obtain ⟨e, he, rfl, -, -, act⟩ := State.guardPassage_of_head hh
    have passed (X : State) (h : s.popHead.peerRevoke d e.frame.payload = X) :
        exec .peerRevokeDomainPassage s = .next X.drive :=
      congrArg finish ((act _ _ (by simp [he])).trans h)
    exact ⟨fun well => passed _ (if_pos (revokeOk_iff.mpr well)),
      fun ill => passed _ (if_neg fun h => ill (revokeOk_iff.mp h))⟩

end Sys2Proof.Machine

/-!
PROOF. CLAIM at the sponsor: the checks of R94 in their order, a refusal by R95, an acceptance by R96
and R97.
-/

namespace Sys2Proof.Machine

/-! ## The scope's roster entries (R94, sixth check) -/

/-- The first value found among elements in ascending order. -/
theorem findSome?_eq_of_first {n : Nat} {α : Type} {l : List (Fin n)} {f : Fin n → Option α} {d : Fin n}
    {a : α} (asc : l.Pairwise (· < ·)) (mem : d ∈ l) (found : f d = some a)
    (first : ∀ x ∈ l, x < d → f x = none) : l.findSome? f = some a := by
  induction asc with
  | nil => cases mem
  | @cons x l below _ ih =>
    rw [List.findSome?_cons]
    rcases List.mem_cons.mp mem with rfl | mem
    · rw [found]
    · rw [first x (List.mem_cons_self ..) (below d mem)]
      exact ih mem fun y hy => first y (List.mem_cons_of_mem _ hy)

theorem mem_allDomains (d : Domain) : d ∈ allDomains := by
  revert d; decide

theorem rosterReason_eq_none {x : PeerState} : rosterReason x = none ↔ x = .present := by
  cases x <;> simp [rosterReason]

theorem rosterReason_of_not_present {x : PeerState} (h : x ≠ .present) :
    rosterReason x = some (if x = .foreign then Reason.mismatch else Reason.peerAbsent) := by
  cases x with
  | present => exact absurd rfl h
  | foreign | absent => rfl

section
variable {s : State} {scope : DomainSet}

theorem State.scopeRefusal_eq_none :
    s.scopeRefusal scope = none ↔
      ∀ d, inSet d scope = true → (s.membership.roster[d]).state = .present := by
  simp only [State.scopeRefusal, List.findSome?_eq_none_iff, List.mem_filter, rosterReason_eq_none]
  exact ⟨fun h d hd => h d ⟨mem_allDomains d, hd⟩, fun h d hd => h d hd.2⟩

/-- The first scope domain, ascending, whose entry is not PRESENT decides (R94). -/
theorem State.scopeRefusal_eq_some {d : Domain} (hd : inSet d scope = true)
    (absent : (s.membership.roster[d]).state ≠ .present)
    (before : ∀ x : Domain, x.val < d.val → inSet x scope = true →
      (s.membership.roster[x]).state = .present) :
    s.scopeRefusal scope = some (if (s.membership.roster[d]).state = .foreign
      then Reason.mismatch else Reason.peerAbsent) := by
  have asc : (allDomains.filter fun d => inSet d scope).Pairwise (· < ·) :=
    List.Pairwise.filter _ (by decide)
  refine findSome?_eq_of_first asc (List.mem_filter.mpr ⟨mem_allDomains d, hd⟩)
    (rosterReason_of_not_present absent) fun x hx lt => rosterReason_eq_none.mpr ?_
  exact before x lt (List.mem_filter.mp hx).2

end

/-! ## The checks of R94 -/

section
variable {s : State} {t : Tester} {b : Byte} {k : Sys2Proof.Class}

theorem claimClass_eq_some :
    claimClass b = some k ↔ Class.ofNumber b.toNat = some k ∧ k.effecting = true := by
  unfold claimClass
  cases Class.ofNumber b.toNat with
  | none => simp
  | some c =>
    by_cases he : c.effecting = true
    · simp only [he, if_true, Option.some.injEq]
      exact ⟨fun h => ⟨h, h ▸ he⟩, And.left⟩
    · simp only [he, Option.some.injEq]
      exact ⟨fun h => absurd h (by simp), fun h => absurd (h.1 ▸ h.2) he⟩

theorem State.hasRoom_eq_true :
    s.hasRoom = true ↔ s.hold.view.length + s.hold.reservations.length < 24 := by
  simp [State.hasRoom, Config.viewPlaces]

theorem State.hasRoom_eq_false :
    s.hasRoom = false ↔ 24 ≤ s.hold.view.length + s.hold.reservations.length := by
  simp [State.hasRoom, Config.viewPlaces]

theorem State.claimRefusalFor_eq_none :
    s.claimRefusalFor t k = none ↔
      s.fence.fenced = false ∧ s.claimCount t < 4 ∧
      (∀ d, inSet d (s.config.scope k s.config.ownDomain) = true →
        (s.membership.roster[d]).state = .present) ∧
      s.conditionsMet k = true ∧ s.hold.view.length + s.hold.reservations.length < 24 ∧
      s.conflicts k = false := by
  rw [← State.scopeRefusal_eq_none, ← State.hasRoom_eq_true, ← Nat.not_le]
  unfold State.claimRefusalFor
  cases s.fence.fenced with
  | true => simp
  | false =>
    by_cases many : 4 ≤ s.claimCount t
    · simp [Config.claimLimit, many]
    · cases s.scopeRefusal (s.config.scope k s.config.ownDomain) with
      | some r => simp [Config.claimLimit, many]
      | none => simp [Config.claimLimit, many, ite_some_eq_none]

/-- A class that passed the first three checks is judged by the others (R94). -/
theorem State.judgeClaim_of_granted (hm : s.membership.state = .member) (ha : s.admitted t = true)
    (hn : Class.ofNumber b.toNat = some k) (he : k.effecting = true) (hg : s.grants t k = true) :
    s.judgeClaim t b = (s.claimRefusalFor t k).elim (.inr k) .inl := by
  cases hr : s.claimRefusalFor t k <;>
    simp [State.judgeClaim, hm, ha, claimClass_eq_some.mpr ⟨hn, he⟩, hg, hr]

theorem State.judgeClaim_of_not_granted (hm : s.membership.state = .member) (ha : s.admitted t = true)
    (hg : ∀ k, Class.ofNumber b.toNat = some k → k.effecting = true → s.grants t k = false) :
    s.judgeClaim t b = .inl Reason.capability := by
  unfold State.judgeClaim
  rw [if_neg (by simp [hm]), if_neg (by simp [ha])]
  cases hc : claimClass b with
  | none => rfl
  | some c =>
    obtain ⟨hn, he⟩ := claimClass_eq_some.mp hc
    exact if_pos (by simp [hg c hn he])

theorem State.judgeClaim_eq_inr :
    s.judgeClaim t b = .inr k ↔
      s.membership.state = .member ∧ s.admitted t = true ∧ Class.ofNumber b.toNat = some k ∧
      k.effecting = true ∧ s.grants t k = true ∧ s.claimRefusalFor t k = none := by
  constructor
  · intro h
    unfold State.judgeClaim at h
    split at h
    · cases h
    next hm =>
    split at h
    · cases h
    next ha =>
    split at h
    · cases h
    next c hc =>
    split at h
    · cases h
    next hg =>
    split at h
    · cases h
    next hr =>
    cases h
    obtain ⟨hn, he⟩ := claimClass_eq_some.mp hc
    exact ⟨not_not.mp hm, by simpa using ha, hn, he, by simpa using hg, hr⟩
  · rintro ⟨hm, ha, hn, he, hg, hr⟩
    rw [State.judgeClaim_of_granted hm ha hn he hg, hr]
    rfl

theorem State.claimRefusalFor_of_absent (hf : s.fence.fenced = false) (few : s.claimCount t < 4) {r : Byte}
    (absent : s.scopeRefusal (s.config.scope k s.config.ownDomain) = some r) :
    s.claimRefusalFor t k = some r := by
  rw [State.claimRefusalFor, if_neg (by simp [hf]), if_neg (Nat.not_le.mpr few), absent]

theorem State.claimRefusalFor_of_present (hf : s.fence.fenced = false) (few : s.claimCount t < 4)
    (present : s.scopeRefusal (s.config.scope k s.config.ownDomain) = none) :
    s.claimRefusalFor t k =
      if !s.conditionsMet k then some Reason.condition
      else if !s.hasRoom then some Reason.tableFull
      else if s.conflicts k then some Reason.conflict
      else none := by
  rw [State.claimRefusalFor, if_neg (by simp [hf]), if_neg (Nat.not_le.mpr few), present]

end

/-! ## An accepted CLAIM (R96, R97) -/

section
variable {s : State} {t : Tester} {p : List Byte} {k : Sys2Proof.Class}

theorem State.passClaim_of_refused {r : Byte} (h : s.judgeClaim t (byteAt p 0) = .inl r) :
    s.passClaim t p = s.refuseClaim t p r := by
  rw [State.passClaim, h]

theorem State.passClaim_of_told (h : s.judgeClaim t (byteAt p 0) = .inr k)
    (told : s.takesProtocol = true) :
    s.passClaim t p = (s.reserve (s.newReservation t p k)).joinQueue
      (guardFrame s.config.ownDomain .announce (s.newReservation t p k).announce) 0 := by
  rw [State.passClaim, h]
  exact (if_pos told).trans (State.offerProtocol_of_takes (s := s.reserve (s.newReservation t p k)) told _ _)

theorem State.passClaim_of_lost (h : s.judgeClaim t (byteAt p 0) = .inr k)
    (lost : s.takesProtocol = false) :
    s.passClaim t p = ((s.reserve (s.newReservation t p k)).offerProtocol .announce
      (s.newReservation t p k).announce).announceLost (s.newReservation t p k) := by
  rw [State.passClaim, h]
  exact if_neg (ne_true_of_eq_false lost)

end

/-- Settles O36: the branches of the passage, then the checks of R94 one by one. -/
theorem claimPassage : Obligations.ClaimPassage := by
  unfold Obligations.ClaimPassage
  refine ⟨fun s t p rest hh => ?_, fun s t b k => ?_, fun s t b => ⟨fun hm => if_pos hm, fun hm ha => ?_,
    State.judgeClaim_of_not_granted, fun k hm ha hn he hg => ?_⟩⟩
  · have passed (X : State) (h : (s.afterTesterHead t).passClaim t p = X) :
        exec .claimPassage s = .next X.drive :=
      congrArg finish ((State.testerPassage_every hh fun t p s => s.passClaim t p).trans h)
    refine ⟨fun r refused => passed _ (State.passClaim_of_refused refused),
      fun k accepted => ⟨fun told => ?_, fun lost => passed _ (State.passClaim_of_lost accepted lost)⟩⟩
    have config : (s.afterTesterHead t).config = s.config := by simp
    rw [← config]
    exact passed _ (State.passClaim_of_told accepted told)
  · rw [State.judgeClaim_eq_inr, State.claimRefusalFor_eq_none]
  · exact (if_neg (not_not.mpr hm)).trans (if_pos (by simp [ha]))
  · rw [State.judgeClaim_of_granted hm ha hn he hg]
    refine ⟨fun fenced => ?_, fun hf many => ?_, fun hf few => ⟨fun d hd absent before => ?_,
      fun present => ⟨fun unmet => ?_, fun met full => ?_, fun met room conflict => ?_⟩⟩⟩
    · rw [State.claimRefusalFor, if_pos fenced]
      rfl
    · rw [State.claimRefusalFor, if_neg (by simp [hf]), if_pos many]
      rfl
    · rw [State.claimRefusalFor_of_absent hf few (State.scopeRefusal_eq_some hd absent before)]
      rfl
    all_goals rw [State.claimRefusalFor_of_present hf few (State.scopeRefusal_eq_none.mpr present)]
    · simp [unmet]
    · simp [met, State.hasRoom_eq_false.mpr full]
    · simp [met, State.hasRoom_eq_true.mpr room, conflict]

end Sys2Proof.Machine

/-!
PROOF. ANNOUNCE at a guard in its scope: of kind NEW (R98 to R100) and of kind RESUME (R103, R104,
R127).
-/

namespace Sys2Proof.Machine

/-! ## Whom an ANNOUNCE goes to (R98) -/

section
variable {s : State} {d : Domain} {p : List Byte} {sponsor voter : Announce → State → State}

theorem State.passAnnounce_of_outside (h : inSet s.config.ownDomain (announceScope p) = false) :
    s.passAnnounce d p sponsor voter = s :=
  if_neg (by simp [h])

theorem State.passAnnounce_of_malformed (h : inSet s.config.ownDomain (announceScope p) = true)
    (hr : readAnnounce d p = none) :
    s.passAnnounce d p sponsor voter = s.count Counter.foreignFrames := by
  rw [State.passAnnounce, if_pos h, hr]

theorem State.passAnnounce_of_own (h : inSet s.config.ownDomain (announceScope p) = true) {a : Announce}
    (hr : readAnnounce d p = some a) (hd : d = s.config.ownDomain) :
    s.passAnnounce d p sponsor voter = sponsor a s := by
  rw [State.passAnnounce, if_pos h, hr]
  exact if_pos hd

theorem State.passAnnounce_of_peer (h : inSet s.config.ownDomain (announceScope p) = true) {a : Announce}
    (hr : readAnnounce d p = some a) (hd : d ≠ s.config.ownDomain) :
    s.passAnnounce d p sponsor voter = voter a s := by
  rw [State.passAnnounce, if_pos h, hr]
  exact if_neg hd

theorem announceRow_of_kind {k : AnnounceKind} {e : RxEntry}
    (h : announceKindAt e.frame.payload = some k) : announceRow k e = true := by
  simp [announceRow, h]

end

/-! ## Kind NEW (R99, R100) -/

section
variable {s : State} {d : Domain} {a : Announce} {v : Reservation}

/-- The checks of R99 in their order. -/
theorem State.voterNewReason_eq (s : State) (d : Domain) (a : Announce) :
    s.voterNewReason d a =
      if s.membership.state ≠ .member then some Reason.notReady
      else if s.fence.fenced = true then some Reason.fenced
      else if ¬((s.membership.roster[d]).state = .present ∧ a.scope = s.config.scope a.cls d ∧
        s.record? a.id = none) then some Reason.mismatch
      else if s.conditionsMet a.cls = false then some Reason.condition
      else if 24 ≤ s.hold.view.length + s.hold.reservations.length then some Reason.tableFull
      else if s.conflicts a.cls = true then some Reason.conflict
      else none := by
  simp only [State.voterNewReason, State.voterConsent, State.newMatches, ← State.hasRoom_eq_false,
    Bool.not_eq_true', Bool.and_eq_true, ← Bool.not_eq_true, beq_iff_eq, Option.isNone_iff_eq_none, and_assoc]

/-- The checks of R100 in their order. -/
theorem State.sponsorNewReason_eq (s : State) (v : Reservation) (a : Announce) :
    s.sponsorNewReason v a =
      if s.membership.state ≠ .member then some Reason.notReady
      else if s.admitted v.tester = false then some Reason.notAdmitted
      else if s.fence.fenced = true then some Reason.fenced
      else if s.conditionsMet a.cls = false then some Reason.condition
      else if s.conflicts a.cls = true then some Reason.conflict
      else none := by
  simp only [State.sponsorNewReason, State.sponsorConsent, Bool.not_eq_true']

theorem State.voterNewReason_eq_none (s : State) (d : Domain) (a : Announce) :
    s.voterNewReason d a = none ↔
      s.membership.state = .member ∧ s.fence.fenced = false ∧
      (s.membership.roster[d]).state = .present ∧ a.scope = s.config.scope a.cls d ∧
      s.record? a.id = none ∧ s.conditionsMet a.cls = true ∧
      s.hold.view.length + s.hold.reservations.length < 24 ∧ s.conflicts a.cls = false := by
  simp only [State.voterNewReason_eq, ite_some_eq_none, ne_eq, not_not, Bool.not_eq_true,
    Bool.not_eq_false, Nat.not_le, and_true, and_assoc]

theorem State.sponsorNewReason_eq_none (s : State) (v : Reservation) (a : Announce) :
    s.sponsorNewReason v a = none ↔
      s.membership.state = .member ∧ s.admitted v.tester = true ∧ s.fence.fenced = false ∧
      s.conditionsMet a.cls = true ∧ s.conflicts a.cls = false := by
  simp only [State.sponsorNewReason_eq, ite_some_eq_none, ne_eq, not_not, Bool.not_eq_true,
    Bool.not_eq_false, and_true]

theorem State.voterNew_of_consent (h : s.voterNewReason d a = none) :
    s.voterNew d a = (s.createRecord (a.record
      (some (s.startTimer s.config.timing.consentHold)) none)).vote a.id .fresh none := by
  rw [State.voterNew, h]

theorem State.voterNew_of_objection {r : Byte} (h : s.voterNewReason d a = some r) :
    s.voterNew d a = s.vote a.id .fresh (some r) := by
  rw [State.voterNew, h]

theorem State.sponsorNew_of_consent (hv : s.reservation? a.id = some v)
    (h : s.sponsorNewReason v a = none) : s.sponsorNew a = s.sponsorConsents v a := by
  rw [State.sponsorNew, hv]
  simp only [h]

theorem State.sponsorNew_of_refusal {r : Byte} (hv : s.reservation? a.id = some v)
    (h : s.sponsorNewReason v a = some r) : s.sponsorNew a = s.sponsorRefuses v a r := by
  rw [State.sponsorNew, hv]
  simp only [h]

/-- The sponsor's record as it consents, with its window (R100). -/
def State.sponsorRecorded (s : State) (v : Reservation) (a : Announce) (window : Option Timer) : State :=
  ((s.releaseReservation a.id).createRecord
    (a.record none (some (v.sponsorPart s.config.ownDomain window)))).offerClaimStatus a.tester a.id v.tag
      ClaimState.pending.code Reason.ok a.cls v.lease

theorem State.sponsorConsents_of_shared (h : a.scope ≠ onlyDomain s.config.ownDomain) :
    s.sponsorConsents v a =
      s.sponsorRecorded v a (some (s.startTimer s.config.timing.claimWindow)) := by
  have shared : (a.scope == onlyDomain s.config.ownDomain) = false := by simpa using h
  simp [State.sponsorConsents, State.sponsorRecorded, shared]

theorem State.sponsorConsents_of_alone (h : a.scope = onlyDomain s.config.ownDomain) :
    s.sponsorConsents v a = (s.sponsorRecorded v a none).decideClaim a.id .granted Reason.ok := by
  have alone : (a.scope == onlyDomain s.config.ownDomain) = true := by simpa using h
  simp [State.sponsorConsents, State.sponsorRecorded, alone]

end

/-- Settles O37: whom the ANNOUNCE goes to, the voter's and the sponsor's branches, and the checks. -/
theorem announceNew : Obligations.AnnounceNew := by
  unfold Obligations.AnnounceNew
  refine ⟨fun s echo d p rest hh kind => ?_, State.voterNewReason_eq_none, State.sponsorNewReason_eq_none,
    State.voterNewReason_eq, State.sponsorNewReason_eq⟩
  obtain ⟨e, -, rfl, -, -, act⟩ := State.guardPassage_of_head hh
  have passed (X : State) (h : s.popHead.passAnnounce d e.frame.payload (fun a s => s.sponsorNew a)
      (fun a s => s.voterNew d a) = X) : exec .announceNewPassage s = .next X.drive :=
    congrArg finish ((act _ _ (announceRow_of_kind kind)).trans h)
  refine ⟨fun outside => passed _ (State.passAnnounce_of_outside outside),
    fun inside malformed => passed _ (State.passAnnounce_of_malformed inside malformed),
    fun a inside read => ?_⟩
  have voted (peer : d ≠ s.config.ownDomain) (X : State) (h : s.popHead.voterNew d a = X) :
      exec .announceNewPassage s = .next X.drive :=
    passed X ((State.passAnnounce_of_peer (s := s.popHead) inside read peer).trans h)
  have sponsored (own : d = s.config.ownDomain) (X : State) (h : s.popHead.sponsorNew a = X) :
      exec .announceNewPassage s = .next X.drive :=
    passed X ((State.passAnnounce_of_own (s := s.popHead) inside read own).trans h)
  refine ⟨fun peer consent => voted peer _ (State.voterNew_of_consent consent),
    fun r peer objection => voted peer _ (State.voterNew_of_objection objection), fun v own reserved => ?_⟩
  have consents (consent : s.popHead.sponsorNewReason v a = none) (X : State)
      (h : s.popHead.sponsorConsents v a = X) : exec .announceNewPassage s = .next X.drive :=
    sponsored own X ((State.sponsorNew_of_consent (s := s.popHead) reserved consent).trans h)
  refine ⟨fun r refusal =>
      sponsored own _ (State.sponsorNew_of_refusal (s := s.popHead) reserved refusal),
    fun consent shared => ?_, fun consent alone => ?_⟩
  · subst own
    exact consents consent _ (State.sponsorConsents_of_shared shared)
  · subst own
    exact consents consent _ (State.sponsorConsents_of_alone alone)

/-! ## Kind RESUME (R103, R104, R127) -/

section
variable {s : State} {a : Announce} {r : Record} {q : Sponsor} {id : ClaimId} {k : Sys2Proof.Class}

/-- The checks of R103 that the sponsor makes as well (R104), in their order. -/
theorem State.resumeReason_eq (s : State) (k : Sys2Proof.Class) :
    s.resumeReason k =
      if s.membership.state ≠ .member then some Reason.notReady
      else if s.fence.fenced = true then some Reason.fenced
      else if s.conditionsMet k = false then some Reason.condition
      else none := by
  simp only [State.resumeReason, Bool.not_eq_true']

theorem State.resumeReason_eq_none (s : State) (k : Sys2Proof.Class) :
    s.resumeReason k = none ↔
      s.membership.state = .member ∧ s.fence.fenced = false ∧ s.conditionsMet k = true := by
  simp only [State.resumeReason_eq, ite_some_eq_none, ne_eq, not_not, Bool.not_eq_true,
    Bool.not_eq_false, and_true]

theorem State.suspendedRecord_of_suspended (h : s.record? id = some r) (hr : r.state = .suspended) :
    s.suspendedRecord id = some r := by
  simp [State.suspendedRecord, h, hr]

theorem State.suspendedRecord_of_not_suspended
    (h : ∀ r, s.record? id = some r → r.state ≠ .suspended) : s.suspendedRecord id = none := by
  unfold State.suspendedRecord
  split
  next r hr => exact if_neg (h r hr)
  · rfl

theorem State.voterResumeReason_of_suspended (h : s.record? id = some r) (hr : r.state = .suspended) :
    s.voterResumeReason id = s.resumeReason r.cls := by
  rw [State.voterResumeReason, State.resumeReason, State.suspendedRecord_of_suspended h hr]
  cases hk : s.conditionsMet r.cls <;> simp [hk]

theorem State.voterResumeReason_of_not_suspended
    (h : ∀ r, s.record? id = some r → r.state ≠ .suspended) :
    s.voterResumeReason id =
      if s.membership.state ≠ .member then some Reason.notReady
      else if s.fence.fenced = true then some Reason.fenced
      else some Reason.mismatch := by
  rw [State.voterResumeReason, State.suspendedRecord_of_not_suspended h]

theorem State.voterResumeReason_eq_none (s : State) (id : ClaimId) :
    s.voterResumeReason id = none ↔
      s.membership.state = .member ∧ s.fence.fenced = false ∧
      ∃ r, s.record? id = some r ∧ r.state = .suspended ∧ s.conditionsMet r.cls = true := by
  by_cases found : ∃ r, s.record? id = some r ∧ r.state = .suspended
  · obtain ⟨r, hr, suspended⟩ := found
    simp [State.voterResumeReason_of_suspended hr suspended, State.resumeReason_eq_none, hr, suspended]
  · have none : ∀ r, s.record? id = some r → r.state ≠ .suspended :=
      fun r hr suspended => found ⟨r, hr, suspended⟩
    rw [State.voterResumeReason_of_not_suspended none]
    simp only [ite_some_eq_none, reduceCtorEq, and_false, false_iff]
    rintro ⟨-, -, r, hr, suspended, -⟩
    exact none r hr suspended

/-- A voter's SUSPENDED record moves to RESUMING with its vote (R103). -/
theorem State.voterResume_of_suspended (h : s.record? a.id = some r) (hr : r.state = .suspended) :
    s.voterResume a = (s.updateRecord a.id fun r => { r with
      state := .resuming
      consented := (s.voterResumeReason a.id).isNone
      holdTimer := if (s.voterResumeReason a.id).isNone
        then some (s.startTimer s.config.timing.consentHold) else none }).vote a.id .resume
          (s.voterResumeReason a.id) := by
  rw [State.voterResume, State.suspendedRecord_of_suspended h hr]

theorem State.voterResume_of_not_suspended
    (h : ∀ r, s.record? a.id = some r → r.state ≠ .suspended) :
    s.voterResume a = s.vote a.id .resume (s.voterResumeReason a.id) := by
  rw [State.voterResume, State.suspendedRecord_of_not_suspended h]

theorem State.sponsorResume_of_consent (h : s.standing a.id = .here r q) (hr : r.state = .suspended)
    (hn : s.resumeReason r.cls = none) : s.sponsorResume a = s.sponsorResumes r q := by
  rw [State.sponsorResume, h]
  simp only [hr, hn, if_true]

theorem State.sponsorResume_of_refusal (h : s.standing a.id = .here r q) (hr : r.state = .suspended)
    {x : Byte} (hx : s.resumeReason r.cls = some x) : s.sponsorResume a = s.sponsorResumeFails r q x := by
  rw [State.sponsorResume, h]
  simp only [hr, hx, if_true]

/-- The sponsor's record RESUMING, with its consent set and window (R104). -/
def State.sponsorResuming (s : State) (r : Record) (window : Option Timer) : State :=
  (s.updateRecord r.id fun x => { x with state := .resuming, consented := true }).updateSponsor r.id
    fun q => { q with consentSet := onlyDomain s.config.ownDomain, window := window }

theorem State.sponsorResumes_of_ending (h : q.ending = true) :
    s.sponsorResumes r q = s.sponsorResuming r none := by
  simp [State.sponsorResumes, State.sponsorResuming, h]

theorem State.sponsorResumes_of_shared (h : q.ending = false)
    (hs : r.scope ≠ onlyDomain s.config.ownDomain) :
    s.sponsorResumes r q =
      (s.sponsorResuming r (some (s.startTimer s.config.timing.claimWindow))).reportClaim r q
        ClaimState.resuming.code Reason.ok := by
  have shared : (r.scope == onlyDomain s.config.ownDomain) = false := by simpa using hs
  simp [State.sponsorResumes, State.sponsorResuming, h, shared]

theorem State.sponsorResumes_of_alone (h : q.ending = false)
    (hs : r.scope = onlyDomain s.config.ownDomain) :
    s.sponsorResumes r q =
      ((s.sponsorResuming r none).reportClaim r q ClaimState.resuming.code Reason.ok).decideClaim r.id
        .resumed Reason.ok := by
  have alone : (r.scope == onlyDomain s.config.ownDomain) = true := by simpa using hs
  simp [State.sponsorResumes, State.sponsorResuming, h, alone]

end

/-- Settles O38: the voter's record moves whatever its vote; the sponsor's branches by ENDING and scope;
then the checks. -/
theorem announceResume : Obligations.AnnounceResume := by
  unfold Obligations.AnnounceResume
  refine ⟨fun s echo d p rest a hh kind inside read => ?_, fun s id => ⟨s.voterResumeReason_eq_none id,
    fun r => State.voterResumeReason_of_suspended, State.voterResumeReason_of_not_suspended⟩,
    fun s k => ⟨s.resumeReason_eq_none k, s.resumeReason_eq k⟩⟩
  obtain ⟨e, -, rfl, -, -, act⟩ := State.guardPassage_of_head hh
  have passed (X : State) (h : s.popHead.passAnnounce d e.frame.payload (fun a s => s.sponsorResume a)
      (fun a s => s.voterResume a) = X) : exec .announceResumePassage s = .next X.drive :=
    congrArg finish ((act _ _ (announceRow_of_kind kind)).trans h)
  refine ⟨fun peer => ?_, fun r q own standing suspended => ?_⟩
  · have voted (X : State) (h : s.popHead.voterResume a = X) :
        exec .announceResumePassage s = .next X.drive :=
      passed X ((State.passAnnounce_of_peer (s := s.popHead) inside read peer).trans h)
    refine ⟨fun r found suspended => ⟨fun consent => ?_, fun x objection => ?_⟩, fun missing => ?_⟩
    · refine voted _ ((State.voterResume_of_suspended (s := s.popHead) found suspended).trans ?_)
      rw [consent]
      rfl
    · refine voted _ ((State.voterResume_of_suspended (s := s.popHead) found suspended).trans ?_)
      rw [objection]
      rfl
    · have objects : s.popHead.voterResumeReason a.id ≠ none := fun consent => by
        obtain ⟨-, -, r, found, suspended, -⟩ := (State.voterResumeReason_eq_none _ _).mp consent
        exact missing r found suspended
      obtain ⟨x, objection⟩ := Option.ne_none_iff_exists'.mp objects
      refine ⟨x, objection, voted _ ((State.voterResume_of_not_suspended (s := s.popHead) missing).trans ?_)⟩
      rw [objection]
      rfl
  · have sponsored (X : State) (h : s.popHead.sponsorResume a = X) :
        exec .announceResumePassage s = .next X.drive :=
      passed X ((State.passAnnounce_of_own (s := s.popHead) inside read own).trans h)
    subst own
    refine ⟨fun x refusal => ?_, fun consent => ?_⟩
    · have fails := State.sponsorResume_of_refusal (s := s.popHead) standing suspended refusal
      exact ⟨fun ending => sponsored _ (fails.trans (if_pos ending)),
        fun standing => sponsored _ (fails.trans (if_neg (ne_true_of_eq_false standing)))⟩
    · have resumes := State.sponsorResume_of_consent (s := s.popHead) standing suspended consent
      exact ⟨fun ending => sponsored _ (resumes.trans (State.sponsorResumes_of_ending ending)),
        fun stands shared => sponsored _ (resumes.trans (State.sponsorResumes_of_shared stands shared)),
        fun stands alone => sponsored _ (resumes.trans (State.sponsorResumes_of_alone stands alone))⟩

end Sys2Proof.Machine

/-!
PROOF. Votes (R105, R107 to R109), VERDICT and CANCEL (R110, R111, R113), BREAK and END (R125, R126,
R129 to R131).
-/

namespace Sys2Proof.Machine

/-! ## Votes (R107 to R109) -/

section
variable {s : State} {d : Domain} {p : List Byte} {current : Record → Sponsor → State → State}
  {r : Record} {q : Sponsor}

theorem State.passVote_of_elsewhere (h : homeOf (word16At p 0) ≠ s.config.ownDomain.val) :
    s.passVote d p current = s := if_neg h

theorem State.passVote_of_absent (h : homeOf (word16At p 0) = s.config.ownDomain.val)
    (hr : s.record? (word16At p 0) = none) : s.passVote d p current = s.count Counter.lateVotes := by
  rw [State.passVote, if_pos h, hr]

theorem State.passVote_of_stranger (h : homeOf (word16At p 0) = s.config.ownDomain.val)
    (hr : s.record? (word16At p 0) = some r) (hd : inSet d r.scope = false ∨ d = s.config.ownDomain) :
    s.passVote d p current = s.count Counter.foreignFrames := by
  rw [State.passVote, if_pos h, hr]
  exact if_pos (by simpa using hd)

/-- A vote of another guard in the scope, at the record's home: current, or late (R107). -/
theorem State.passVote_of_voter (h : homeOf (word16At p 0) = s.config.ownDomain.val)
    (hr : s.standing (word16At p 0) = .here r q) (hs : inSet d r.scope = true)
    (hd : d ≠ s.config.ownDomain) :
    s.passVote d p current =
      if undecided r q && voteMatches p r then current r q s else s.count Counter.lateVotes := by
  obtain ⟨record, sponsor⟩ := State.standing_here.mp hr
  rw [State.passVote, if_pos h, record]
  simp only [hs, hd, sponsor, Bool.not_true, Bool.false_or, beq_iff_eq, if_false]

/-- What a current vote does, by its passage (R108, R109). -/
def currentVote (c : Instr) (d : Domain) (p : List Byte) (r : Record) (q : Sponsor) (s : State) : State :=
  match c with
  | .objectPassage => s.decideClaim r.id .refused (byteAt p 3)
  | _ => s.applyConsent d r q

theorem exec_vote {c : Instr} {echo : Bool} {rest : List RxEntry}
    (h : (c = .consentPassage ∧ s.guardHead .consent echo d p rest) ∨
      (c = .objectPassage ∧ s.guardHead .object echo d p rest)) :
    exec c s = .next (s.popHead.passVote d p (currentVote c d p)).drive := by
  rcases h with ⟨rfl, hh⟩ | ⟨rfl, hh⟩
  all_goals
    obtain ⟨e, -, rfl, -, -, act⟩ := State.guardPassage_of_head hh
    exact congrArg finish (act _ _ rfl)

theorem State.applyConsent_of_incomplete (h : q.consentSet ||| onlyDomain d ≠ r.scope) :
    s.applyConsent d r q =
      s.updateSponsor r.id fun y => { y with consentSet := q.consentSet ||| onlyDomain d } :=
  if_neg h

theorem State.applyConsent_of_complete (h : q.consentSet ||| onlyDomain d = r.scope) :
    s.applyConsent d r q =
      (s.updateSponsor r.id fun y => { y with consentSet := q.consentSet ||| onlyDomain d }).decideClaim
        r.id (heldOutcome r) Reason.ok :=
  if_pos h

end

/-- Settles O39: the vote's branches at the home guard, then what a current vote does by its kind. -/
theorem votes : Obligations.Votes := by
  unfold Obligations.Votes
  refine ⟨fun s echo d p rest c hh => ?_, fun s id o b => rfl⟩
  have passed (X : State) (h : s.popHead.passVote d p (currentVote c d p) = X) :
      exec c s = .next X.drive := (exec_vote hh).trans (by rw [h])
  refine ⟨fun elsewhere => passed _ (State.passVote_of_elsewhere elsewhere), fun home =>
    ⟨fun absent => passed _ (State.passVote_of_absent (s := s.popHead) home absent),
      fun r found stranger => passed _ (State.passVote_of_stranger (s := s.popHead) home found stranger),
      fun r q here scope other => ?_⟩⟩
  have voter := State.passVote_of_voter (s := s.popHead) (current := currentVote c d p) home here scope other
  refine ⟨fun late => passed _ (voter.trans (if_neg ?_)), fun undecidedYet fits => ?_⟩
  · rcases late with late | late <;> simp [late]
  · have current (X : State) (h : currentVote c d p r q s.popHead = X) : exec c s = .next X.drive :=
      passed X (voter.trans ((if_pos (by simp [undecidedYet, fits])).trans h))
    refine ⟨fun object => ?_, fun consent => ⟨fun incomplete => ?_, fun complete pending => ?_,
      fun complete resuming => ?_⟩⟩
    · subst object
      exact current _ rfl
    all_goals subst consent
    · exact current _ (State.applyConsent_of_incomplete incomplete)
    · have granted : heldOutcome r = .granted := by simp [heldOutcome, pending]
      exact current _ (granted ▸ State.applyConsent_of_complete complete)
    · have resumed : heldOutcome r = .resumed := by simp [heldOutcome, resuming]
      exact current _ (resumed ▸ State.applyConsent_of_complete complete)

/-! ## VERDICT and CANCEL (R110, R111, R113) -/

section
variable {s : State} {d : Domain} {p : List Byte} {r : Record} {o : VerdictOutcome}

/-- What a VERDICT does to the record of its claim, by its outcome (R110). -/
def applyVerdict (o : VerdictOutcome) (p : List Byte) (r : Record) (s : State) : State :=
  match o with
  | .granted => if r.state = .pending then s.holdClaim r .claimBegin .granted else s
  | .resumed => if r.state = .resuming then s.holdClaim r .claimResumed .resumed else s
  | .refused => s.settleAgainst r (byteAt p 3) (some r.id)
  | .lapsed => s.settleAgainst r Reason.lapsed (some r.id)

theorem verdictRow_of_outcome {e : RxEntry}
    (h : verdictOutcomeAt e.frame.payload = none ∨ verdictOutcomeAt e.frame.payload = some o) :
    verdictRow o e = true := by
  rcases h with h | h <;> simp [verdictRow, h]

theorem exec_verdict {c : Instr} {echo : Bool} {rest : List RxEntry}
    (hh : s.guardHead .verdict echo d p rest)
    (hc : (c = .verdictGranted ∧ o = .granted) ∨ (c = .verdictResumed ∧ o = .resumed) ∨
      (c = .verdictRefused ∧ o = .refused) ∨ (c = .verdictLapsed ∧ o = .lapsed))
    (ho : verdictOutcomeAt p = none ∨ verdictOutcomeAt p = some o) :
    exec c s = .next (s.popHead.passVerdict d p (applyVerdict o p)).drive := by
  obtain ⟨e, -, rfl, -, -, act⟩ := State.guardPassage_of_head hh
  have row := verdictRow_of_outcome ho
  rcases hc with ⟨rfl, rfl⟩ | ⟨rfl, rfl⟩ | ⟨rfl, rfl⟩ | ⟨rfl, rfl⟩
  all_goals exact congrArg finish (act _ _ row)

/-- A claim's verdict mark as the VERDICT passes at its home (R105, R110). -/
def State.verdictPassed (s : State) (p : List Byte) : State :=
  s.updateSponsor (word16At p 0) fun q => { q with decided := false }

theorem State.passVerdict_of_malformed {apply : Record → State → State}
    (h : homeOf (word16At p 0) ≠ d.val ∨ verdictOutcomeAt p = none) :
    s.passVerdict d p apply = s.count Counter.foreignFrames := by
  refine if_neg ?_
  rintro ⟨home, outcome⟩
  rcases h with h | h
  · exact h home
  · simp [h] at outcome

theorem State.passVerdict_of_absent {apply : Record → State → State}
    (home : homeOf (word16At p 0) = d.val) (ho : verdictOutcomeAt p = some o)
    (h : (s.verdictPassed p).record? (word16At p 0) = none) :
    s.passVerdict d p apply = s.verdictPassed p := by
  refine (if_pos ⟨home, by simp [ho]⟩).trans ?_
  dsimp only
  rw [show (s.updateSponsor _ _).record? _ = none from h]
  rfl

theorem State.passVerdict_of_found {apply : Record → State → State}
    (home : homeOf (word16At p 0) = d.val) (ho : verdictOutcomeAt p = some o)
    (h : (s.verdictPassed p).record? (word16At p 0) = some r) :
    s.passVerdict d p apply = apply r (s.verdictPassed p) := by
  refine (if_pos ⟨home, by simp [ho]⟩).trans ?_
  dsimp only
  rw [show (s.updateSponsor _ _).record? _ = some r from h]
  rfl

theorem State.settleAgainst_of_settled (h : r.state = .held ∨ r.state = .suspended) (b : Byte)
    (i : Option ClaimId) : s.settleAgainst r b i = s := by
  rcases h with h | h <;> rw [State.settleAgainst, h]

/-- A VERDICT that does not meet the record's state leaves it (R110). -/
theorem applyVerdict_of_unmet
    (h : (r.state = .held ∨ r.state = .suspended) ∨ (o = .granted ∧ r.state = .resuming) ∨
      (o = .resumed ∧ r.state = .pending)) : applyVerdict o p r s = s := by
  rcases h with settled | ⟨rfl, resuming⟩ | ⟨rfl, pending⟩
  · cases o with
    | granted => exact if_neg (by rcases settled with h | h <;> simp [h])
    | resumed => exact if_neg (by rcases settled with h | h <;> simp [h])
    | refused => exact State.settleAgainst_of_settled settled _ _
    | lapsed => exact State.settleAgainst_of_settled settled _ _
  · exact if_neg (by simp [resuming])
  · exact if_neg (by simp [pending])

/-! ### CANCEL (R113) -/

/-- A frame sent by this guard clears its mark in the record (R76). -/
def State.markCleared (s : State) (echo : Bool) (id : ClaimId) (f : Record → Record) : State :=
  if echo then s.updateRecord id f else s

theorem State.passCancel_of_absent {e : RxEntry} (h : s.record? (word16At e.frame.payload 0) = none) :
    s.passCancel d e = s := by
  rw [State.passCancel]
  dsimp only
  rw [h]

theorem State.passCancel_of_malformed {e : RxEntry} (h : s.record? (word16At e.frame.payload 0) = some r)
    (hd : inSet d r.scope = false ∨ homeOf (word16At e.frame.payload 0) = d.val) :
    s.passCancel d e = s.count Counter.foreignFrames := by
  rw [State.passCancel]
  dsimp only
  rw [h]
  exact if_pos (by simpa using hd)

theorem State.passCancel_of_voter {e : RxEntry} (h : s.record? (word16At e.frame.payload 0) = some r)
    (hs : inSet d r.scope = true) (hd : homeOf (word16At e.frame.payload 0) ≠ d.val) :
    s.passCancel d e =
      (s.markCleared e.echo (word16At e.frame.payload 0) fun r => { r with cancelSent := false }).settleAgainst
        r Reason.cancelled none := by
  rw [State.passCancel]
  dsimp only
  rw [h]
  exact if_neg (by simp [hs, hd])

/-! ### A claim held, or settled against its tester (R110, R111, R113) -/

theorem State.holdClaim_of_elsewhere (h : r.sponsor = none) (n : NoticeKind) (x : TrailEvent) :
    s.holdClaim r n x =
      s.updateRecord r.id (Record.becomeHeld fun lease => ⟨s.guardTime, 1000 * lease⟩) := by
  rw [State.holdClaim, h]

theorem State.holdClaim_of_home {q : Sponsor} (h : r.sponsor = some q) (n : NoticeKind) (x : TrailEvent) :
    s.holdClaim r n x =
      (((s.updateRecord r.id (Record.becomeHeld fun lease => ⟨s.guardTime, 1000 * lease⟩)).reportClaim r q
        ClaimState.held.code Reason.ok).claimNotice n r Reason.ok).post x (some r.tester) (some r.id)
          (some r.cls) 0x00#8 := by
  rw [State.holdClaim, h]

theorem State.settleAgainst_of_pending (hr : r.state = .pending) (b : Byte) (i : Option ClaimId) :
    (r.sponsor = none → s.settleAgainst r b i = s.removeRecord r.id) ∧
    (∀ q, r.sponsor = some q →
      s.settleAgainst r b i = (s.removeRecord r.id).reportRefusal r q b i) := by
  constructor
  · intro h
    rw [State.settleAgainst, hr, h]
  · intro q h
    rw [State.settleAgainst, hr, h]

theorem State.settleAgainst_of_resuming (hr : r.state = .resuming) (b : Byte) (i : Option ClaimId) :
    (r.sponsor = none → s.settleAgainst r b i = s.updateRecord r.id Record.suspend) ∧
    (∀ q, r.sponsor = some q →
      s.settleAgainst r b i = (s.updateRecord r.id Record.suspend).reportNotResumed r q b) := by
  constructor
  · intro h
    rw [State.settleAgainst, hr, h]
  · intro q h
    rw [State.settleAgainst, hr, h]

end

/-- Settles O40: the table of R110 by outcome and state, the CANCEL, and the two rules they share. -/
theorem verdictsAndCancel : Obligations.VerdictsAndCancel := by
  unfold Obligations.VerdictsAndCancel
  refine ⟨fun s echo d p rest c o hh hc => ?_, fun s echo d p rest hh => ?_, fun s r n x =>
    ⟨fun h => State.holdClaim_of_elsewhere h n x, fun q h => State.holdClaim_of_home h n x⟩, fun s r b i =>
    ⟨fun pending => State.settleAgainst_of_pending pending b i,
      fun resuming => State.settleAgainst_of_resuming resuming b i⟩⟩
  · refine ⟨fun malformed => ?_, fun outcome => ?_⟩
    · rw [exec_verdict hh hc (.inl malformed), State.passVerdict_of_malformed (.inr malformed)]
    have passed (X : State) (h : s.popHead.passVerdict d p (applyVerdict o p) = X) :
        exec c s = .next X.drive := (exec_verdict hh hc (.inr outcome)).trans (by rw [h])
    refine ⟨fun foreign => passed _ (State.passVerdict_of_malformed (.inl foreign)), fun home =>
      ⟨fun absent => passed _ (State.passVerdict_of_absent home outcome absent), fun r found => ?_⟩⟩
    have applied (X : State) (h : applyVerdict o p r (s.popHead.verdictPassed p) = X) :
        exec c s = .next X.drive :=
      passed X ((State.passVerdict_of_found home outcome found).trans h)
    refine ⟨fun granted pending => ?_, fun resumed resuming => ?_, fun refused _ => ?_, fun lapsed _ => ?_,
      fun unmet => applied _ (applyVerdict_of_unmet unmet)⟩
    · subst granted
      exact applied _ (if_pos pending)
    · subst resumed
      exact applied _ (if_pos resuming)
    · subst refused
      exact applied _ rfl
    · subst lapsed
      exact applied _ rfl
  · obtain ⟨e, rfl, rfl, -, -, act⟩ := State.guardPassage_of_head hh
    have passed (X : State) (h : s.popHead.passCancel d e = X) :
        exec .cancelPassage s = .next X.drive := congrArg finish ((act _ _ rfl).trans h)
    refine ⟨fun absent => passed _ (State.passCancel_of_absent absent), fun r found =>
      ⟨fun malformed => passed _ (State.passCancel_of_malformed found malformed), fun scope other => ?_⟩⟩
    have settled := State.passCancel_of_voter (s := s.popHead) found scope other
    exact ⟨fun _ => passed _ settled,
      fun stands => passed _ (settled.trans (State.settleAgainst_of_settled stands _ _))⟩

/-! ## BREAK and END (R125, R126, R129 to R131) -/

section
variable {s : State} {d : Domain} {r : Record} {e : RxEntry}

theorem State.passBreak_of_absent (h : s.record? (word16At e.frame.payload 0) = none) :
    s.passBreak d e = s := by
  rw [State.passBreak]
  dsimp only
  rw [h]

theorem State.passBreak_of_stranger (h : s.record? (word16At e.frame.payload 0) = some r)
    (hd : inSet d r.scope = false) : s.passBreak d e = s.count Counter.foreignFrames := by
  rw [State.passBreak]
  dsimp only
  rw [h]
  exact if_pos (by simp [hd])

theorem State.passBreak_of_scope (h : s.record? (word16At e.frame.payload 0) = some r)
    (hd : inSet d r.scope = true) :
    s.passBreak d e =
      (s.markCleared e.echo (word16At e.frame.payload 0) fun r => { r with breakSent := false }).breakRecord
        r := by
  rw [State.passBreak]
  dsimp only
  rw [h]
  exact if_neg (by simp [hd])

/-- A BREAK at a guard that is not the claim's home (R129). -/
theorem State.breakRecord_of_elsewhere (h : r.sponsor = none) :
    (r.state = .pending → s.breakRecord r = s.removeRecord r.id) ∧
    (r.state = .held ∨ r.state = .resuming → s.breakRecord r = s.updateRecord r.id Record.suspend) := by
  refine ⟨fun pending => ?_, ?_⟩
  · rw [State.breakRecord, pending, h]
  · rintro (held | resuming)
    · rw [State.breakRecord, held, h]
    · rw [State.breakRecord, resuming, h]

/-- A BREAK at the claim's home, by the record's state (R130, R131). -/
theorem State.breakRecord_of_home {q : Sponsor} (h : r.sponsor = some q) :
    (r.state = .pending → s.breakRecord r = (s.removeRecord r.id).reportBreakRefusal r q) ∧
    (r.state = .held → s.breakRecord r = (s.updateRecord r.id Record.suspend).reportSuspension r q) ∧
    (r.state = .resuming →
      s.breakRecord r = (s.updateRecord r.id Record.suspend).reportNotResumed r q Reason.condition) := by
  refine ⟨fun pending => ?_, fun held => ?_, fun resuming => ?_⟩
  · rw [State.breakRecord, pending, h]
  · rw [State.breakRecord, held, h]
  · rw [State.breakRecord, resuming, h]

theorem State.breakRecord_of_suspended (h : r.state = .suspended) : s.breakRecord r = s := by
  rw [State.breakRecord, h]

variable {p : List Byte}

theorem State.passEnd_of_malformed (h : homeOf (word16At p 0) ≠ d.val ∨ endReasonOk (byteAt p 2) = false) :
    s.passEnd d p = s.count Counter.foreignFrames := by
  refine if_neg ?_
  rintro ⟨home, ok⟩
  rcases h with h | h
  · exact h home
  · simp [h] at ok

theorem State.passEnd_of_absent (home : homeOf (word16At p 0) = d.val) (ok : endReasonOk (byteAt p 2) = true)
    (h : s.record? (word16At p 0) = none) : s.passEnd d p = s := by
  rw [State.passEnd, if_pos ⟨home, ok⟩, h]

theorem State.passEnd_of_found (home : homeOf (word16At p 0) = d.val) (ok : endReasonOk (byteAt p 2) = true)
    (h : s.record? (word16At p 0) = some r) : s.passEnd d p = s.endRecord r (byteAt p 2) := by
  rw [State.passEnd, if_pos ⟨home, ok⟩, h]

theorem State.endRecord_of_elsewhere (h : r.sponsor = none) (b : Byte) :
    s.endRecord r b = s.removeRecord r.id := by
  rw [State.endRecord, h]

theorem State.endRecord_of_home {q : Sponsor} (h : r.sponsor = some q) (b : Byte) :
    s.endRecord r b = (s.removeRecord r.id).reportEnding r q b := by
  rw [State.endRecord, h]

theorem State.handClaimChange_of_other {id : ClaimId}
    (h : ∀ v, s.delivery.service = some v → v.claim ≠ id) (c : StopCause) (b : Byte) :
    s.handClaimChange id (some c) b = s.removeEntries (fun e => e.claim == id) (some b) := by
  unfold State.handClaimChange
  cases hv : s.delivery.service with
  | none => rfl
  | some v => simp [h v hv]

theorem State.handClaimChange_of_served {id : ClaimId} {v : Service}
    (hv : s.delivery.service = some v) (h : v.claim = id) (c : StopCause) (b : Byte) :
    s.handClaimChange id (some c) b =
      (s.askStop c).removeEntries (fun e => e.claim == id) (some b) := by
  unfold State.handClaimChange
  simp [hv, h]

end

/-- Settles O41: each passage by the record's state and its home, and the change of a claim handed to the
delivery unit. -/
theorem breakAndEnd : Obligations.BreakAndEnd := by
  unfold Obligations.BreakAndEnd
  refine ⟨fun s echo d p rest hh => ?_, fun s echo d p rest hh => ?_, fun s id c b =>
    ⟨fun other => State.handClaimChange_of_other other c b,
      fun v hv same => State.handClaimChange_of_served hv same c b⟩⟩
  · obtain ⟨e, rfl, rfl, -, -, act⟩ := State.guardPassage_of_head hh
    have passed (X : State) (h : s.popHead.passBreak d e = X) :
        exec .breakPassage s = .next X.drive := congrArg finish ((act _ _ rfl).trans h)
    refine ⟨fun absent => passed _ (State.passBreak_of_absent absent), fun r found =>
      ⟨fun stranger => passed _ (State.passBreak_of_stranger found stranger), fun scope => ?_⟩⟩
    have broken := State.passBreak_of_scope (s := s.popHead) found scope
    refine ⟨fun suspended => passed _ (broken.trans (State.breakRecord_of_suspended suspended)),
      fun elsewhere pending => passed _ (broken.trans ((State.breakRecord_of_elsewhere elsewhere).1 pending)),
      fun elsewhere holds => passed _ (broken.trans ((State.breakRecord_of_elsewhere elsewhere).2 holds)),
      fun q home => ?_⟩
    have rules (s : State) := State.breakRecord_of_home (s := s) home
    exact ⟨fun pending => passed _ (broken.trans ((rules _).1 pending)),
      fun held => passed _ (broken.trans ((rules _).2.1 held)),
      fun resuming => passed _ (broken.trans ((rules _).2.2 resuming))⟩
  · obtain ⟨e, rfl, rfl, -, -, act⟩ := State.guardPassage_of_head hh
    have passed (X : State) (h : s.popHead.passEnd d e.frame.payload = X) :
        exec .endPassage s = .next X.drive := congrArg finish ((act _ _ rfl).trans h)
    refine ⟨fun malformed => passed _ (State.passEnd_of_malformed malformed), fun home ok =>
      ⟨fun absent => passed _ (State.passEnd_of_absent home ok absent), fun r found => ?_⟩⟩
    have ended := State.passEnd_of_found (s := s.popHead) home ok found
    exact ⟨fun elsewhere => passed _ (ended.trans (State.endRecord_of_elsewhere elsewhere _)),
      fun q here => passed _ (ended.trans (State.endRecord_of_home here _))⟩

end Sys2Proof.Machine

/-!
PROOF. The end of an admission (R54 to R60).
-/

namespace Sys2Proof.Machine

/-! ## END(GONE) for the tester's claims (R60, R121) -/

/-- What an END decision leaves of a record: which claim it is, whose, and whether it is homed here. -/
def Record.homed (r : Record) : ClaimId × Tester × Bool := (r.id, r.tester, r.sponsor.isSome)

/-- Every record of a claim id has END decided. -/
def EndDecided (view : List Record) (id : ClaimId) : Prop :=
  ∀ r ∈ view, r.id = id → ∀ q, r.sponsor = some q → q.ending = true

section
variable {s : State}

/-- Deciding an end sets ENDING in the sponsor part of the claim, or finds nothing to set (R121). -/
theorem State.decideEnd_view (s : State) (id : ClaimId) (b : Byte) :
    (s.decideEnd id b).hold.view = s.hold.view ∧
      (∀ r q, s.standing id = .here r q → q.ending = true) ∨
    ∃ f : Sponsor → Sponsor, (∀ q, (f q).ending = true) ∧
      (s.decideEnd id b).hold.view =
        s.hold.view.map fun r => if r.id = id then r.onSponsor f else r := by
  unfold State.decideEnd
  split
  next r q here =>
    split
    next ending =>
      refine .inl ⟨rfl, fun r' q' here' => ?_⟩
      obtain ⟨-, rfl⟩ : r = r' ∧ q = q' := by
        rw [here] at here'
        exact Standing.here.inj here'
      exact ending
    · exact .inr ⟨fun y => { y with
        ending := true
        leaseTimer := none
        window := if undecided r q then none else y.window }, fun _ => rfl, by
          simp only [State.offerProtocol_keeps]; rfl⟩
  next absent => exact .inl ⟨rfl, fun r q here => absurd here (absent r q)⟩

theorem State.decideEnd_homed (s : State) (id : ClaimId) (b : Byte) :
    (s.decideEnd id b).hold.view.map Record.homed = s.hold.view.map Record.homed := by
  rcases s.decideEnd_view id b with ⟨same, -⟩ | ⟨f, -, set⟩
  · rw [same]
  · rw [set, List.map_map]
    refine List.map_congr_left fun r _ => ?_
    simp only [Function.comp]
    split
    · simp [Record.homed, Record.onSponsor]
    · rfl

theorem State.decideEnd_keeps_endDecided {id : ClaimId} (h : EndDecided s.hold.view id) (x : ClaimId)
    (b : Byte) : EndDecided (s.decideEnd x b).hold.view id := by
  rcases s.decideEnd_view x b with ⟨same, -⟩ | ⟨f, ends, set⟩
  · rwa [same]
  · rw [set]
    intro r hr
    obtain ⟨w, hw, rfl⟩ := List.mem_map.mp hr
    split
    · intro _ q hq
      obtain ⟨y, -, rfl⟩ := Option.map_eq_some_iff.mp hq
      exact ends y
    · exact h w hw

/-- The claim ids of the view stand once each, in ascending order (R74). -/
def State.idsAscend (s : State) : Prop := (s.hold.view.map Record.homed).Pairwise fun x y => x.1.toNat < y.1.toNat

theorem State.idsAscend_of_ascending (h : s.hold.ascending = true) : s.idsAscend :=
  List.pairwise_map.mpr (of_decide_eq_true h)

theorem find?_of_ascending {l : List Record} (h : (l.map Record.homed).Pairwise fun x y => x.1.toNat < y.1.toNat)
    {r : Record} (hr : r ∈ l) : l.find? (fun x => x.id == r.id) = some r := by
  induction l with
  | nil => cases hr
  | cons x l ih =>
    obtain ⟨below, rest⟩ := List.pairwise_cons.mp h
    rw [List.find?_cons]
    rcases List.mem_cons.mp hr with rfl | hr
    · simp
    · have lt : x.id.toNat < r.id.toNat := below r.homed (List.mem_map_of_mem hr)
      have other : (x.id == r.id) = false :=
        beq_eq_false_iff_ne.mpr fun same => absurd lt (by simp [same])
      rw [other]
      exact ih rest hr

theorem State.decideEnd_decides (h : s.idsAscend) (id : ClaimId) (b : Byte) :
    EndDecided (s.decideEnd id b).hold.view id := by
  rcases s.decideEnd_view id b with ⟨same, ended⟩ | ⟨f, ends, set⟩
  · rw [same]
    rintro r hr rfl q hq
    exact ended r q (State.standing_here.mpr ⟨find?_of_ascending h hr, hq⟩)
  · rw [set]
    intro r hr
    obtain ⟨w, hw, rfl⟩ := List.mem_map.mp hr
    split
    · intro _ q hq
      obtain ⟨y, -, rfl⟩ := Option.map_eq_some_iff.mp hq
      exact ends y
    next other => exact fun same => absurd same other

/-- END decided for the claims of some records one after another (R60). -/
def State.decideEnds (s : State) (l : List Record) : State :=
  l.foldl (fun s r => s.decideEnd r.id Reason.gone) s

theorem State.decideEnds_effect (l : List Record) (h : s.idsAscend) :
    (s.decideEnds l).hold.view.map Record.homed = s.hold.view.map Record.homed ∧
    (∀ id, EndDecided s.hold.view id → EndDecided (s.decideEnds l).hold.view id) ∧
    ∀ r ∈ l, EndDecided (s.decideEnds l).hold.view r.id := by
  induction l generalizing s with
  | nil => exact ⟨rfl, fun _ h => h, fun _ hr => absurd hr List.not_mem_nil⟩
  | cons x l ih =>
    have homed := s.decideEnd_homed x.id Reason.gone
    have asc : (s.decideEnd x.id Reason.gone).idsAscend := by
      rw [State.idsAscend, homed]
      exact h
    obtain ⟨views, kept, decided⟩ := ih asc
    refine ⟨views.trans homed,
      fun id hid => kept id (State.decideEnd_keeps_endDecided hid x.id Reason.gone), fun r hr => ?_⟩
    rcases List.mem_cons.mp hr with rfl | hr
    · exact kept _ (State.decideEnd_decides h _ Reason.gone)
    · exact decided r hr

/-- Of a tester's claims homed here, every one has END decided (R60). -/
theorem State.endClaimsOf_decided (h : s.idsAscend) (t : Tester) {r : Record}
    (hr : r ∈ (s.endClaimsOf t).hold.view) {q : Sponsor} (hq : r.sponsor = some q) (ht : r.tester = t) :
    q.ending = true := by
  obtain ⟨homed, -, decided⟩ := State.decideEnds_effect
    (s.hold.view.filter fun r => r.sponsor.isSome && r.tester == t) h
  have mem : r.homed ∈ s.hold.view.map Record.homed := homed ▸ List.mem_map_of_mem hr
  obtain ⟨w, hw, same⟩ := List.mem_map.mp mem
  simp only [Record.homed, Prod.mk.injEq] at same
  obtain ⟨id, tester, home⟩ := same
  have listed : w ∈ s.hold.view.filter fun r => r.sponsor.isSome && r.tester == t := by
    simp [hw, home, hq, tester, ht]
  exact decided w listed r hr id.symm q hq

theorem State.decideEnd_entries (s : State) (id : ClaimId) (b : Byte) :
    (s.decideEnd id b).trail.entries = s.trail.entries := by
  unfold State.decideEnd
  split
  · split
    · rfl
    · rw [State.offerProtocol_entries]; rfl
  · rfl

/-- What every END decision keeps, ending a tester's claims keeps. -/
theorem State.endClaimsOf_keep {β : Type} (g : State → β)
    (h : ∀ s id, g (s.decideEnd id Reason.gone) = g s) (s : State) (t : Tester) :
    g (s.endClaimsOf t) = g s :=
  State.foldl_keeps g (fun s (r : Record) => s.decideEnd r.id Reason.gone) (fun s r => h s r.id) _ s

end

/-! ## The rest of an admission (R57 to R59) -/

section
variable {s : State}

/-- An admission ended in every unit but the view (R57 to R59). -/
def State.admissionEnded (s : State) (t : Tester) (x : EndCause) : State :=
  (((((s.setAdmission t ⟨none, x⟩).emptyLane t).removeEntries (fun e => e.tester == t) none).orphanService
    t).discardAnswers t)

theorem State.endAdmission_of_admitted {t : Tester} (h : s.admitted t = true) (x : EndCause) :
    s.endAdmission t x = (s.admissionEnded t x).endClaimsOf t := if_pos h

theorem State.orphanService_keeps (s : State) (t : Tester) :
    (s.orphanService t).admissions = s.admissions ∧ (s.orphanService t).memory = s.memory ∧
    (s.orphanService t).hold = s.hold ∧ (s.orphanService t).trail = s.trail := by
  unfold State.orphanService
  split <;> simp

theorem State.emptyLane_effect (s : State) (t : Tester) :
    (s.emptyLane t).admissions = s.admissions ∧
    (s.emptyLane t).memory.lanes = s.memory.lanes.set t.val .free t.isLt ∧
    (s.emptyLane t).memory.replies = s.memory.replies ∧ (s.emptyLane t).delivery = s.delivery ∧
    (s.emptyLane t).fence = s.fence ∧ (s.emptyLane t).hold = s.hold ∧ (s.emptyLane t).trail = s.trail := by
  rw [State.emptyLane_eq]
  simp [State.freeBlocks]

/-- What the end of an admission leaves in each unit (R57 to R59). -/
theorem State.admissionEnded_effect (s : State) (t : Tester) (x : EndCause) :
    let u := s.admissionEnded t x
    u.admissions = s.admissions.set t.val ⟨none, x⟩ t.isLt ∧
    u.memory.lanes = s.memory.lanes.set t.val .free t.isLt ∧
    u.memory.replies = s.memory.replies.filter (fun a => a.tester != t) ∧
    u.delivery.queue = s.delivery.queue.filter (fun e => !(e.tester == t)) ∧
    u.fence = { s.fence with stop := s.fence.stop.map (StopOrder.orphan t) } ∧
    u.delivery.service = (if s.fence.stop.isSome then s.delivery.service
      else s.delivery.service.map fun v => if v.tester = t then { v with orphaned := true } else v) ∧
    u.hold = s.hold ∧ u.trail = s.trail := by
  have emptied := (s.setAdmission t ⟨none, x⟩).emptyLane_effect t
  unfold State.admissionEnded
  generalize (s.setAdmission t ⟨none, x⟩).emptyLane t = e at emptied ⊢
  obtain ⟨eAdmissions, eLanes, eReplies, eDelivery, eFence, eHold, eTrail⟩ := emptied
  obtain ⟨delivery, lanes, replies⟩ := State.removeEntries_effect e (fun e => e.tester == t) none
  obtain ⟨-, trail⟩ := State.removeEntries_silent e fun e => e.tester == t
  obtain ⟨fence, queue, service⟩ :=
    State.orphanService_effect (e.removeEntries (fun e => e.tester == t) none) t
  obtain ⟨admissions, memory, hold, entries⟩ :=
    State.orphanService_keeps (e.removeEntries (fun e => e.tester == t) none) t
  simp [admissions, memory, hold, entries, fence, queue, service, delivery, lanes, replies, trail,
    eAdmissions, eLanes, eReplies, eDelivery, eFence, eHold, eTrail]

end

/-- Settles O46: the commands by their branches; the effect unit by unit, then of END(GONE). -/
theorem admissionEnds : Obligations.AdmissionEnds := by
  unfold Obligations.AdmissionEnds
  refine ⟨fun s t p rest hh => ?_, fun s t k running ticket => ⟨fun soonest => ?_, fun soonest => ?_⟩,
    fun s t x out => if_neg (by simp [out]), fun s t x admitted => ?_⟩
  · exact congrArg finish (State.testerPassage_every hh fun t _ s => s.endAdmission t .left)
  · have expired : exec (.validityTimerExpiry t) s = finish (s.expire ((s.ticket t).map fun k => k.validity)
        fun s => s.endAdmission t .ticketExpired) := rfl
    rw [expired, ticket]
    exact congrArg finish (State.expire_soonest _ running soonest)
  · have expired : exec (.quietTimerExpiry t) s = finish (s.expire ((s.ticket t).map fun k => k.quiet)
        fun s => s.endAdmission t .quiet) := rfl
    rw [expired, ticket]
    exact congrArg finish (State.expire_soonest _ running soonest)
  · obtain ⟨admissions, lanes, replies, queue, fence, service, hold, trail⟩ := s.admissionEnded_effect t x
    have kept {β : Type} (g : State → β) (h : ∀ s id, g (s.decideEnd id Reason.gone) = g s) :=
      State.endClaimsOf_keep g h (s.admissionEnded t x) t
    have entries := kept (fun s => s.trail.entries) fun s id => s.decideEnd_entries id Reason.gone
    have view := kept (fun s => s.hold.view.map Record.replicated) fun s id =>
      s.decideEnd_replicated id Reason.gone
    dsimp only at entries view ⊢
    rw [State.endAdmission_of_admitted admitted, kept State.admissions (by simp), kept State.memory (by simp),
      kept State.delivery (by simp), kept State.fence (by simp), entries, view,
      admissions, lanes, replies, queue, fence, service, hold, trail]
    refine ⟨rfl, rfl, rfl, rfl, fun none => by simp [none], fun o stands => ?_, fun none => by simp [none],
      rfl, fun asc r hr q hq ht => ?_, rfl⟩
    · simp only [stands, Option.isSome_some, if_true, Option.map_some, Option.some.injEq, true_and]
      exact ⟨fun same => if_pos same, fun other => if_neg other⟩
    · refine State.endClaimsOf_decided ?_ t hr hq ht
      rw [State.idsAscend, hold]
      exact State.idsAscend_of_ascending asc

end Sys2Proof.Machine

/-!
PROOF. REQ_FIRST and completion (R69, R70, R139, R140, R143).
-/

namespace Sys2Proof.Machine

/-! ## The claims a request may name (R139, seventh and eighth checks) -/

section
variable {s : State} {t : Tester} {k : Sys2Proof.Class} {id : ClaimId}

theorem State.effectingClaimOk_iff :
    s.effectingClaimOk t k id = true ↔ ∃ r q, s.standing id = .here r q ∧ r.tester = t ∧
      r.cls = k ∧ (r.state = .pending ∨ r.state = .held) ∧ q.ending = false := by
  unfold State.effectingClaimOk
  cases s.standing id with
  | here r q => simp [and_assoc]
  | _ => simp

theorem State.readClaimOk_iff :
    s.readClaimOk t id = true ↔ ∃ r q, s.standing id = .here r q ∧ r.tester = t ∧
      r.state = .held ∧ q.ending = false := by
  unfold State.readClaimOk
  cases s.standing id with
  | here r q => simp [and_assoc]
  | _ => simp

/-! ## The checks of R139 in their order -/

theorem elim_ite_some {α β : Type} {c : Prop} [Decidable c] {x : α} {y : Option α} {b : β} {f : α → β} :
    (if c then some x else y).elim b f = if c then f x else y.elim b f := by
  split <;> rfl

theorem State.claimCheck_eq (s : State) (t : Tester) (k : Sys2Proof.Class) (id : ClaimId) :
    s.claimCheck t k id =
      if k.effecting = true ∧ id = noClaim then some Reason.noClaim
      else if k.effecting = true ∧ s.effectingClaimOk t k id = false then some Reason.claimNotHeld
      else if k.effecting = false ∧ id ≠ noClaim ∧ s.readClaimOk t id = false then
        some Reason.claimNotHeld
      else none := by
  unfold State.claimCheck
  cases k.effecting with
  | true => cases s.effectingClaimOk t k id <;> simp
  | false =>
    by_cases none : id = noClaim
    · simp [none]
    · cases s.readClaimOk t id <;> simp [none]

theorem State.queueHasPlace_eq_false :
    s.queueHasPlace t = false ↔ 4 ≤ s.delivery.queue.countP (fun x => x.tester == t) ∨
      16 ≤ s.delivery.queue.length + s.placesHeld := by
  unfold State.queueHasPlace
  rw [Bool.and_eq_false_iff]
  simp only [decide_eq_false_iff_not, Nat.not_lt, Config.queuePerTester, Config.queueEntries]

/-- The checks of R139 from the sixth on, in their order. -/
theorem State.reqRefusalFor_eq (s : State) (t : Tester) (k : Sys2Proof.Class) (n : Nat) (id : ClaimId) :
    s.reqRefusalFor t k n id =
      if s.grants t k = false then some Reason.capability
      else if k.effecting = true ∧ id = noClaim then some Reason.noClaim
      else if k.effecting = true ∧ s.effectingClaimOk t k id = false then some Reason.claimNotHeld
      else if k.effecting = false ∧ id ≠ noClaim ∧ s.readClaimOk t id = false then
        some Reason.claimNotHeld
      else if k.effecting = true ∧ s.fence.fenced = true then some Reason.fenced
      else if 4 ≤ s.delivery.queue.countP (fun x => x.tester == t) ∨
          16 ≤ s.delivery.queue.length + s.placesHeld then some Reason.queueFull
      else if s.memory.free < blocksFor n + 8 then some Reason.memoryFull
      else none := by
  have named : s.reqRefusalFor t k n id =
      if s.grants t k = false then some Reason.capability
      else (s.claimCheck t k id).elim
        (if k.effecting = true ∧ s.fence.fenced = true then some Reason.fenced
        else if s.queueHasPlace t = false then some Reason.queueFull
        else if s.memory.free < blocksFor n + 8 then some Reason.memoryFull
        else none) some := by
    unfold State.reqRefusalFor
    simp only [Bool.not_eq_true', Bool.and_eq_true]
    cases s.claimCheck t k id <;> rfl
  rw [named, State.claimCheck_eq]
  simp only [elim_ite_some, Option.elim_none, State.queueHasPlace_eq_false]

variable {p : List Byte}

theorem State.laneFree_eq_true : s.laneFree t = true ↔ s.memory.lanes[t] = .free := by
  simp [State.laneFree]

theorem State.laneFree_eq_false : s.laneFree t = false ↔ s.memory.lanes[t] ≠ .free := by
  simp [State.laneFree]

/-- The first four checks of R139, and what follows them. -/
theorem State.judgeRequest_eq (s : State) (t : Tester) (p : List Byte) :
    s.judgeRequest t p =
      if s.admitted t = false then .inl (Reason.notAdmitted, none)
      else if s.tagInUse t (byteAt p 0) = true then .inl (Reason.duplicateTag, none)
      else if s.memory.lanes[t] ≠ .free then .inl (Reason.busyLane, none)
      else if reqTotal p = 0 ∨ 4095 < reqTotal p then .inl (Reason.tooLong, none)
      else (winningPattern s.config.patterns (requestWindow p (reqTotal p)) (reqTotal p)).elim
        (.inl (Reason.unclassified, none)) fun e =>
          (s.reqRefusalFor t e.cls (reqTotal p) (reqClaim p)).elim (.inr e) fun r => .inl (r, some e.cls) := by
  have length : (decide (1 ≤ reqTotal p) && decide (reqTotal p ≤ Config.longestMessage)) = false ↔
      reqTotal p = 0 ∨ 4095 < reqTotal p := by
    rw [Bool.and_eq_false_iff, decide_eq_false_iff_not, decide_eq_false_iff_not, Config.longestMessage]
    omega
  unfold State.judgeRequest
  simp only [Bool.not_eq_true', State.laneFree_eq_false, length]
  cases winningPattern s.config.patterns (requestWindow p (reqTotal p)) (reqTotal p) with
  | none => rfl
  | some e => cases hr : s.reqRefusalFor t e.cls (reqTotal p) (reqClaim p) <;> simp [hr]

theorem ite_inl_eq_inr {α β : Type} {c : Prop} [Decidable c] {x : α} {y : α ⊕ β} {z : β} :
    (if c then .inl x else y) = (.inr z : α ⊕ β) ↔ ¬ c ∧ y = .inr z := by
  split <;> simp_all

theorem State.reqRefusalFor_eq_none {n : Nat} :
    s.reqRefusalFor t k n id = none ↔
      s.grants t k = true ∧
      (k.effecting = true → id ≠ noClaim ∧ s.effectingClaimOk t k id = true) ∧
      (k.effecting = false → id = noClaim ∨ s.readClaimOk t id = true) ∧
      (k.effecting = true → s.fence.fenced = false) ∧
      s.delivery.queue.countP (fun x => x.tester == t) < 4 ∧
      s.delivery.queue.length + s.placesHeld < 16 ∧ blocksFor n + 8 ≤ s.memory.free := by
  simp only [State.reqRefusalFor_eq, ite_some_eq_none, Bool.not_eq_false, not_and, not_or, Nat.not_le,
    Nat.not_lt, and_true, Bool.not_eq_true, ne_eq]
  refine and_congr_right fun _ => ?_
  cases k.effecting with
  | true => simp [and_assoc]
  | false => simp [or_iff_not_imp_left, and_assoc]

theorem State.judgeRequest_eq_inr {e : Pattern} :
    s.judgeRequest t p = .inr e ↔
      s.admitted t = true ∧ s.tagInUse t (byteAt p 0) = false ∧ s.memory.lanes[t] = .free ∧
      1 ≤ reqTotal p ∧ reqTotal p ≤ 4095 ∧
      winningPattern s.config.patterns (requestWindow p (reqTotal p)) (reqTotal p) = some e ∧
      s.reqRefusalFor t e.cls (reqTotal p) (reqClaim p) = none := by
  have judged : ∀ w : Option Pattern, (w.elim (.inl (Reason.unclassified, none)) fun e =>
      (s.reqRefusalFor t e.cls (reqTotal p) (reqClaim p)).elim (.inr e) fun r => .inl (r, some e.cls) :
        (Byte × Option Sys2Proof.Class) ⊕ Pattern) = .inr e ↔
      w = some e ∧ s.reqRefusalFor t e.cls (reqTotal p) (reqClaim p) = none := by
    rintro (_ | x)
    · simp
    · cases hr : s.reqRefusalFor t x.cls (reqTotal p) (reqClaim p) with
      | none => simpa [hr] using fun same => same ▸ hr
      | some r =>
        simp only [Option.elim_some, hr, reduceCtorEq, Option.some.injEq, false_iff, not_and]
        rintro rfl
        simp [hr]
  have length : ¬ (reqTotal p = 0 ∨ 4095 < reqTotal p) ↔ 1 ≤ reqTotal p ∧ reqTotal p ≤ 4095 := by omega
  simp only [State.judgeRequest_eq, ite_inl_eq_inr, judged, length, Bool.not_eq_false, Bool.not_eq_true,
    ne_eq, not_not, and_assoc]

end

/-! ## The passage of a REQ_FIRST (R139, R140) -/

section
variable {s : State} {t : Tester} {p : List Byte}

theorem State.passReqFirst_of_refused {r : Byte} {c : Option Sys2Proof.Class}
    (h : (s.endDiscarding t).judgeRequest t p = .inl (r, c)) :
    s.passReqFirst t p = (s.endDiscarding t).refuseFirst t p r c := by
  unfold State.passReqFirst
  simp only [h]

theorem State.passReqFirst_of_accepted {e : Pattern}
    (h : (s.endDiscarding t).judgeRequest t p = .inr e) :
    s.passReqFirst t p =
      (s.endDiscarding t).beginAssembly t ((s.endDiscarding t).newAssembly p e) := by
  unfold State.passReqFirst
  simp only [h]

theorem State.endDiscarding_keeps (s : State) (t : Tester) :
    (s.endDiscarding t).config = s.config ∧ (s.endDiscarding t).guardTime = s.guardTime := by
  unfold State.endDiscarding
  split <;> simp

/-- A refused REQ_FIRST whose further segments are to come is discarded (R140). -/
theorem State.laneAfterRefusal_of_more {r : Byte} (hr : r ≠ Reason.notAdmitted)
    (free : s.memory.lanes[t] = .free) (more : 1 ≤ lastSegment (reqTotal p)) :
    s.laneAfterRefusal t p r =
      s.setLane t (.discarding (byteAt p 0) (lastSegment (reqTotal p)) s.gapTimer) :=
  (if_neg hr).trans (if_pos (by simp [State.laneFree_eq_true.mpr free, more]))

theorem State.laneAfterRefusal_of_kept {r : Byte}
    (h : r = Reason.notAdmitted ∨ s.memory.lanes[t] ≠ .free ∨ lastSegment (reqTotal p) = 0) :
    s.laneAfterRefusal t p r = s := by
  unfold State.laneAfterRefusal
  split
  · rfl
  next hr =>
    refine if_neg ?_
    rcases h.resolve_left hr with busy | last
    · simp [State.laneFree_eq_false.mpr busy]
    · simp [last]

/-- A refused REQ_FIRST as it is answered, counted and captured (R140, R192). -/
def State.firstRefused (s : State) (t : Tester) (p : List Byte) (r : Byte) (c : Option Sys2Proof.Class) :
    State :=
  s.refuseRequest .reqFirst t (byteAt p 0) r (reqClaim p) c (reqTotal p) (firstData p)

theorem State.refuseFirst_of_more {r : Byte} {c : Option Sys2Proof.Class} (hr : r ≠ Reason.notAdmitted)
    (free : s.memory.lanes[t] = .free) (more : 1 ≤ lastSegment (reqTotal p)) :
    s.refuseFirst t p r c = (s.firstRefused t p r c).setLane t
      (.discarding (byteAt p 0) (lastSegment (reqTotal p)) s.gapTimer) := by
  have gap : (s.firstRefused t p r c).gapTimer = s.gapTimer := by
    simp [State.firstRefused, State.gapTimer, State.startTimer]
  rw [← gap]
  exact State.laneAfterRefusal_of_more hr (by simpa using free) more

theorem State.refuseFirst_of_kept {r : Byte} {c : Option Sys2Proof.Class}
    (h : r = Reason.notAdmitted ∨ s.memory.lanes[t] ≠ .free ∨ lastSegment (reqTotal p) = 0) :
    s.refuseFirst t p r c = s.firstRefused t p r c :=
  State.laneAfterRefusal_of_kept (by simpa using h)

end

/-- Settles O47: the branches of the passage by the judgement, the judgement as the conjunction of the
checks and in their order, and the claims a request may name. -/
theorem reqFirstPassage : Obligations.ReqFirstPassage := by
  unfold Obligations.ReqFirstPassage
  refine ⟨fun s t p rest hh => ?_, fun s t p e => ?_, fun s t p => ?_, fun s t k id =>
    ⟨State.effectingClaimOk_iff, State.readClaimOk_iff⟩⟩
  · have passed (X : State) (h : (s.afterTesterHead t).passReqFirst t p = X) :
        exec .reqFirstPassage s = .next X.drive :=
      congrArg finish ((State.testerPassage_every hh fun t p s => s.passReqFirst t p).trans h)
    obtain ⟨config, time⟩ := (s.afterTesterHead t).endDiscarding_keeps t
    simp only [State.afterTesterHead_keeps] at config time
    intro u last
    rw [← config, ← time]
    refine ⟨fun r k refused => ⟨fun other free more => ?_, fun kept => ?_⟩, fun e accepted =>
      ⟨fun more => ?_, fun single => ?_⟩⟩
    · exact passed _ ((State.passReqFirst_of_refused refused).trans
        (State.refuseFirst_of_more other free more))
    · exact passed _ ((State.passReqFirst_of_refused refused).trans (State.refuseFirst_of_kept kept))
    · exact passed _ ((State.passReqFirst_of_accepted accepted).trans
        (if_neg (Nat.one_le_iff_ne_zero.mp more)))
    · exact passed _ ((State.passReqFirst_of_accepted accepted).trans (if_pos single))
  · rw [State.judgeRequest_eq_inr, State.reqRefusalFor_eq_none]
    simp only [State.effectingClaimOk_iff, State.readClaimOk_iff]
    rfl
  · rw [State.judgeRequest_eq]
    simp only [State.reqRefusalFor_eq, elim_ite_some]
    cases hw : winningPattern s.config.patterns (takeZero p 5 (min 16 (word16At p 1).toNat))
        (word16At p 1).toNat with
    | none => simp only [requestWindow, reqTotal, hw]; rfl
    | some e => simp only [requestWindow, reqTotal, hw]; rfl

/-! ## Completion (R69, R70, R143) -/

section
variable {s : State} {t : Tester} {a : Assembly} {k : FrameKind}

theorem State.completeRequest_of_standing {j : Fin 4} {content : List Byte} (hd : a.disposition = .localReply j)
    (hs : s.slots[j] = .loaded content) :
    s.completeRequest t a k = s.answerStanding t a k content := by
  rw [State.completeRequest, hd]
  simp only [hs]

theorem State.completeRequest_of_delivered
    (h : a.disposition = .deliver ∨ ∃ j, a.disposition = .localReply j ∧ s.slots[j] = .empty) :
    s.completeRequest t a k = s.enqueue t a k := by
  rcases h with hd | ⟨j, hd, hs⟩
  · rw [State.completeRequest, hd]
  · rw [State.completeRequest, hd]
    simp only [hs]

theorem State.enqueue_of_refused {b : Byte} (h : s.completionRefusal t a = some b) :
    s.enqueue t a k = s.refuseAssembly t a k b .free := by
  rw [State.enqueue, h]

theorem State.enqueue_of_passed (h : s.completionRefusal t a = none) :
    s.enqueue t a k = (s.setLane t .free).onDelivery fun d =>
      { d with queue := d.queue ++ [s.newEntry t a], lastStamp := (s.newEntry t a).stamp } := by
  rw [State.enqueue, h]

end

/-- Settles O48: by the disposition and the slot, then the free blocks or the checks made again. -/
theorem completion : Obligations.Completion := by
  unfold Obligations.Completion
  intro s t a k
  refine ⟨fun j content hd hs => ⟨fun blocks replies => ?_, fun full => ?_⟩, fun delivered =>
    ⟨fun b refused => ?_, fun passed => ?_⟩⟩
  · exact (State.completeRequest_of_standing hd hs).trans
      (if_neg (not_or.mpr ⟨Nat.not_lt.mpr blocks, Nat.not_le.mpr replies⟩))
  · exact (State.completeRequest_of_standing hd hs).trans (if_pos full)
  · exact (State.completeRequest_of_delivered delivered).trans (State.enqueue_of_refused refused)
  · exact (State.completeRequest_of_delivered delivered).trans (State.enqueue_of_passed passed)

end Sys2Proof.Machine

/-!
PROOF. REQ_NEXT (R141), ABORT_REQ (R158), the gap timer (R142) and QUEUE_WAIT (R145).
-/

namespace Sys2Proof.Machine

/-! ## REQ_NEXT (R141) -/

section
variable {s : State} {t : Tester} {p : List Byte} {a : Assembly} {tag : Byte} {last : Nat} {tm : Timer}

theorem State.passReqNext_of_free (h : s.memory.lanes[t] = .free) : s.passReqNext t p = s := by
  rw [State.passReqNext, h]

theorem State.passReqNext_of_assembling (h : s.memory.lanes[t] = .assembling a) :
    s.passReqNext t p = if a.tag = byteAt p 0 then s.assembleSegment t a p else s := by
  rw [State.passReqNext, h]

theorem State.passReqNext_of_discarding (h : s.memory.lanes[t] = .discarding tag last tm) :
    s.passReqNext t p =
      if tag = byteAt p 0 then
        if (byteAt p 1).toNat = last then s.setLane t .free
        else s.setLane t (.discarding tag last s.gapTimer)
      else s := by
  rw [State.passReqNext, h]

theorem State.assembleSegment_of_sequence (h : (byteAt p 1).toNat ≠ a.nextIndex) :
    s.assembleSegment t a p =
      s.refuseAssembly t a .reqNext Reason.sequence (.discarding a.tag a.lastIndex s.gapTimer) :=
  if_neg h

theorem State.assembleSegment_of_next (h : (byteAt p 1).toNat = a.nextIndex) :
    s.assembleSegment t a p =
      if a.total ≤ (s.storeSegment a p).data.length then
        (s.setLane t (.assembling (s.storeSegment a p))).completeRequest t (s.storeSegment a p) .reqNext
      else s.setLane t (.assembling (s.storeSegment a p)) :=
  if_pos h

end

/-- Settles O49: the branches by the lane, the tag and the segment index. -/
theorem reqNextPassage : Obligations.ReqNextPassage := by
  unfold Obligations.ReqNextPassage
  intro s t p rest hh u gap
  have passed (X : State) (h : u.passReqNext t p = X) : exec .reqNextPassage s = .next X.drive :=
    congrArg finish ((State.testerPassage_every hh fun t p s => s.passReqNext t p).trans h)
  have memory : u.memory = s.memory := by simp [u]
  have timer : gap = u.gapTimer := by simp [gap, u, State.gapTimer, State.startTimer]
  rw [timer, ← memory]
  refine ⟨fun free => passed _ (State.passReqNext_of_free free), fun a lane => ?_, fun tag last tm lane => ?_⟩
  · have assembling := State.passReqNext_of_assembling (p := p) lane
    refine ⟨fun other => passed _ (assembling.trans (if_neg other)), fun same wrong => ?_,
      fun same next => ⟨fun short => ?_, fun full => ?_⟩⟩
    · exact passed _ ((assembling.trans (if_pos same)).trans (State.assembleSegment_of_sequence wrong))
    · exact passed _ ((assembling.trans (if_pos same)).trans
        ((State.assembleSegment_of_next next).trans (if_neg (Nat.not_le.mpr short))))
    · exact passed _ ((assembling.trans (if_pos same)).trans
        ((State.assembleSegment_of_next next).trans (if_pos full)))
  · have discarding := State.passReqNext_of_discarding (p := p) lane
    exact ⟨fun other => passed _ (discarding.trans (if_neg other)),
      fun same final => passed _ (discarding.trans ((if_pos same).trans (if_pos final))),
      fun same more => passed _ (discarding.trans ((if_pos same).trans (if_neg more)))⟩

/-! ## ABORT_REQ (R158) -/

section
variable {s : State} {t : Tester} {tag : Byte} {v : Service}

theorem State.passAbort_of_assembly (h : s.admitted t = true) {a : Assembly}
    (lane : s.memory.lanes[t] = .assembling a) (same : a.tag = tag) :
    s.passAbort t tag = s.abortAssembly t a := by
  rw [State.passAbort, if_neg (by simp [h]), lane]
  exact if_pos same

theorem State.passAbort_of_no_lane (h : s.admitted t = true)
    (none : ∀ a, s.memory.lanes[t] = .assembling a → a.tag ≠ tag) :
    s.passAbort t tag = s.abortQueued t tag := by
  rw [State.passAbort, if_neg (by simp [h])]
  split
  next a lane => exact if_neg (none a lane)
  · rfl

theorem State.abortQueued_of_queued {e : QueueEntry} (h : s.queued? t tag = some e) :
    s.abortQueued t tag = (s.removeEntries (QueueEntry.isFor t tag) none).requestResult .abortReq t tag
      Reason.aborted e.claim := by
  rw [State.abortQueued, h]

theorem State.abortQueued_of_not_queued (h : s.queued? t tag = none) :
    s.abortQueued t tag = s.abortInService t tag := by
  rw [State.abortQueued, h]

/-- An ABORT_REQ for the request in service (R158). -/
theorem State.abortInService_of_served (hv : s.delivery.service = some v) (ht : v.tester = t)
    (hg : v.tag = tag) (ho : v.orphaned = false) :
    s.abortInService t tag =
      if v.cls.effecting then
        if s.fence.stop.isNone then s.askStop .abort else s.abortResult t tag Reason.already v.claim
      else s.abortResult t tag Reason.notAbortable v.claim := by
  rw [State.abortInService, hv]
  exact if_pos ⟨ht, hg, ho⟩

theorem State.abortInService_of_other
    (h : ∀ v, s.delivery.service = some v → ¬(v.tester = t ∧ v.tag = tag ∧ v.orphaned = false)) :
    s.abortInService t tag = s.abortResult t tag Reason.notFound noClaim := by
  unfold State.abortInService
  split
  · rfl
  next v hv => exact if_neg (h v hv)

end

/-! ## The gap timer (R142) and QUEUE_WAIT (R145) -/

section
variable {s : State} {t : Tester}

theorem State.reachDue_memory (s : State) (tm : Timer) : (s.reachDue tm).memory = s.memory := by simp

theorem State.gapExpired_of_assembling {a : Assembly} (h : s.memory.lanes[t] = .assembling a) :
    s.gapExpired t = s.refuseAssembly t a .reqFirst Reason.assemblyTimeout .free := by
  rw [State.gapExpired, h]

theorem State.gapExpired_of_discarding {tag : Byte} {last : Nat} {tm : Timer}
    (h : s.memory.lanes[t] = .discarding tag last tm) : s.gapExpired t = s.setLane t .free := by
  rw [State.gapExpired, h]

/-- An expiry of a running timer that ends soonest runs its effect at its end (R1; log entry 3). -/
theorem State.expire_of_running {timer : Option Timer} {tm : Timer} {act : State → State}
    (hp : s.phase = .running) (ht : timer = some tm) (hs : s.soonest tm = true) :
    s.expire timer act = act (s.reachDue tm) := by
  rw [ht]
  exact State.expire_soonest act hp hs

end

/-- Settles O50: ABORT_REQ by its first case, the two expiries, and what removing entries does. -/
theorem abortAndWaits : Obligations.AbortAndWaits := by
  unfold Obligations.AbortAndWaits
  refine ⟨fun s t p rest hh => ?_, fun s t running => ⟨fun a lane soonest => ?_, fun tag last tm lane soonest => ?_,
    fun tag e queued soonest => ?_⟩, fun s f x => ?_⟩
  · intro u tag told noLane
    have passed (X : State) (h : u.passAbort t tag = X) : exec .abortReqPassage s = .next X.drive :=
      congrArg finish ((State.testerPassage_every hh fun t p s => s.passAbort t (byteAt p 0)).trans h)
    have memory : u.memory = s.memory := by simp [u]
    have delivery : u.delivery = s.delivery := by simp [u]
    have fence : u.fence = s.fence := by simp [u]
    have timer : (⟨s.guardTime, s.config.timing.segmentGap⟩ : Timer) = u.gapTimer := by
      simp [u, State.gapTimer, State.startTimer]
    have queued : s.queued? t tag = u.queued? t tag := by simp only [State.queued?, delivery]
    have admitted : s.admitted t = u.admitted t := by simp [u]
    simp only [noLane, ← memory, ← delivery, ← fence, timer, queued, admitted]
    refine ⟨fun out => passed _ (if_pos (by simp [out])), fun inside => ⟨fun a lane same => ?_,
      fun none e found => ?_, fun none missing => ⟨fun v hv ht hg ho => ⟨fun he idle => ?_, fun he busy => ?_,
        fun he => ?_⟩, fun other => ?_⟩⟩⟩
    · rw [← same]
      exact passed _ (State.passAbort_of_assembly inside lane same)
    · exact passed _ ((State.passAbort_of_no_lane inside none).trans (State.abortQueued_of_queued found))
    all_goals
      have service := (State.passAbort_of_no_lane inside none).trans
        (State.abortQueued_of_not_queued missing)
    · exact passed _ (service.trans ((State.abortInService_of_served hv ht hg ho).trans
        ((if_pos he).trans (if_pos (by simp [idle])))))
    · exact passed _ (service.trans ((State.abortInService_of_served hv ht hg ho).trans
        ((if_pos he).trans (if_neg (by simpa using busy)))))
    · exact passed _ (service.trans ((State.abortInService_of_served hv ht hg ho).trans
        (if_neg (by simp [he]))))
    · exact passed _ (service.trans (State.abortInService_of_other other))
  · have lane' : (s.reachDue a.gap).memory.lanes[t] = .assembling a := by rw [State.reachDue_memory, lane]
    exact congrArg finish ((State.expire_of_running running (by rw [lane]; rfl) soonest).trans
      (State.gapExpired_of_assembling lane'))
  · have lane' : (s.reachDue tm).memory.lanes[t] = .discarding tag last tm := by
      rw [State.reachDue_memory, lane]
    exact congrArg finish ((State.expire_of_running running (by rw [lane]; rfl) soonest).trans
      (State.gapExpired_of_discarding lane'))
  · exact congrArg finish (State.expire_of_running running (by rw [queued]; rfl) soonest)
  · obtain ⟨delivery, -, -⟩ := s.removeEntries_effect f x
    refine ⟨congrArg Delivery.queue delivery, ?_, (congrArg Delivery.service delivery).trans rfl, ?_, ?_⟩
    · exact (s.removeEntries_free f x).1
    · exact congrArg (fun l => l.1) (s.removeEntries_free f x).2
    · rintro rfl
      exact s.removeEntries_silent f

end Sys2Proof.Machine

/-!
PROOF. Audit queries (R190 to R194).
-/

namespace Sys2Proof.Machine

/-! ## The judgement (R193) -/

section
variable {s : State} {t : Tester} {p : List Byte}

/-- The first five checks of R193 in their order. -/
theorem State.queryRefusal_eq (s : State) (t : Tester) (p : List Byte) :
    s.queryRefusal t p =
      if s.admitted t = false then some Reason.notAdmitted
      else if s.grants t .audit = false then some Reason.capability
      else if Selector.ofCode (byteAt p 0) = none then some Reason.notFound
      else if Selector.ofCode (byteAt p 0) = some .trail ∧ 511 < (word16At p 2).toNat then
        some Reason.notFound
      else if Selector.ofCode (byteAt p 0) = some .trail ∧ 32 < (byteAt p 4).toNat then
        some Reason.tooLong
      else none := by
  simp only [State.queryRefusal, Bool.not_eq_true']
  cases Selector.ofCode (byteAt p 0) with
  | none => simp
  | some x =>
    by_cases trail : x = .trail
    · subst trail
      simp only [reduceCtorEq, if_false, true_and]
      rfl
    · have other : ¬ (some x = some Selector.trail) := by simpa using trail
      simp only [other, reduceCtorEq, if_false, false_and]

theorem State.queryRefusal_eq_none :
    s.queryRefusal t p = none ↔
      s.grants t .audit = true ∧ (Selector.ofCode (byteAt p 0)).isSome = true ∧
      (Selector.ofCode (byteAt p 0) = some .trail →
        (word16At p 2).toNat ≤ 511 ∧ (byteAt p 4).toNat ≤ 32) := by
  simp only [State.queryRefusal_eq, ite_some_eq_none, Bool.not_eq_false, not_and, Nat.not_lt, and_true,
    ← Option.isSome_iff_ne_none, ← imp_and]
  exact ⟨fun h => h.2, fun h => ⟨State.admitted_of_grants h.1, h⟩⟩

/-! ## The passage (R193) -/

theorem State.passQuery_of_refused {answer : State → List Byte} {effect : State → State} {r : Byte}
    (h : s.queryRefusal t p = some r) : s.passQuery t p answer effect = s.queryResult t p r := by
  rw [State.passQuery, h]

theorem State.passQuery_of_passed {answer : State → List Byte} {effect : State → State}
    (h : s.queryRefusal t p = none) :
    s.passQuery t p answer effect =
      if s.canStage (answer s).length then effect (s.stageAudit t (byteAt p 1) (answer s))
      else s.queryResult t p Reason.memoryFull := by
  rw [State.passQuery, h]

theorem State.canStage_eq_true {n : Nat} :
    s.canStage n = true ↔ s.memory.replies.length < 16 ∧ blocksFor n ≤ s.memory.free := by
  simp [State.canStage, Config.replyAnswers]

theorem State.canStage_eq_false {n : Nat} :
    s.canStage n = false ↔ 16 ≤ s.memory.replies.length ∨ s.memory.free < blocksFor n := by
  rw [← Bool.not_eq_true, State.canStage_eq_true]
  omega

theorem selectorRow_of_selector {x : Selector}
    (h : Selector.ofCode (byteAt p 0) = some x ∨ Selector.ofCode (byteAt p 0) = none) :
    selectorRow x p = true := by
  rcases h with h | h <;> simp [selectorRow, h]

/-- The answer and the effect of each query row (R190 to R194). -/
def QueryRow (t : Tester) (p : List Byte) (c : Instr) (x : Selector) (answer : State → List Byte)
    (effect : State → State) : Prop :=
  c = .queryStatus ∧ x = .status ∧ answer = State.statusAnswer ∧ effect = id ∨
  c = .queryIncidents ∧ x = .incidents ∧ answer = State.incidentsAnswer ∧ effect = id ∨
  c = .queryView ∧ x = .view ∧ answer = State.viewAnswer ∧ effect = id ∨
  c = .queryRoster ∧ x = .roster ∧ answer = State.rosterAnswer ∧ effect = id ∨
  c = .queryTrail ∧ x = .trail ∧
    answer = (fun u => u.trailAnswer (word16At p 2).toNat (byteAt p 4).toNat) ∧
    effect = State.useFree ∨
  c = .queryThaw ∧ x = .thaw ∧ answer = State.thawAnswer ∧ effect = (fun u => u.thawTrail t) ∨
  c = .queryCounters ∧ x = .counters ∧ answer = State.countersAnswer ∧ effect = State.clearCounters ∨
  c = .queryCapture ∧ x = .capture ∧ answer = State.captureAnswer ∧ effect = State.clearCapture

theorem exec_query {c : Instr} {x : Selector} {answer : State → List Byte} {effect : State → State}
    {rest : List RxEntry} (hh : s.testerHead .query t p rest) (hc : QueryRow t p c x answer effect)
    (hx : Selector.ofCode (byteAt p 0) = some x ∨ Selector.ofCode (byteAt p 0) = none) :
    exec c s = .next ((s.afterTesterHead t).passQuery t p answer effect).drive := by
  have row := selectorRow_of_selector hx
  have passed := State.testerPassage_of_head hh (selectorRow x) row
  rcases hc with ⟨rfl, rfl, rfl, rfl⟩ | ⟨rfl, rfl, rfl, rfl⟩ | ⟨rfl, rfl, rfl, rfl⟩ | ⟨rfl, rfl, rfl, rfl⟩ |
    ⟨rfl, rfl, rfl, rfl⟩ | ⟨rfl, rfl, rfl, rfl⟩ | ⟨rfl, rfl, rfl, rfl⟩ | ⟨rfl, rfl, rfl, rfl⟩
  · exact congrArg finish (passed fun t p s => s.passQuery t p State.statusAnswer id)
  · exact congrArg finish (passed fun t p s => s.passQuery t p State.incidentsAnswer id)
  · exact congrArg finish (passed fun t p s => s.passQuery t p State.viewAnswer id)
  · exact congrArg finish (passed fun t p s => s.passQuery t p State.rosterAnswer id)
  · exact congrArg finish (passed fun t p s => s.passQuery t p
      (fun s => s.trailAnswer (queryIndex p) (queryCount p)) State.useFree)
  · exact congrArg finish (passed fun t p s => s.passQuery t p State.thawAnswer fun s => s.thawTrail t)
  · exact congrArg finish (passed fun t p s => s.passQuery t p State.countersAnswer State.clearCounters)
  · exact congrArg finish (passed fun t p s => s.passQuery t p State.captureAnswer State.clearCapture)

end

/-! ## The lengths of the answers (R194) -/

section
variable (s : State)

theorem length_flatMap_of_const {α : Type} {l : List α} {f : α → List Byte} {n : Nat}
    (h : ∀ x, (f x).length = n) : (l.flatMap f).length = n * l.length := by
  simp [List.length_flatMap, h, Nat.mul_comm]

@[simp] theorem length_bytes16 (x : BitVec 16) : (bytes16 x).length = 2 := rfl

@[simp] theorem length_bytes32 (x : BitVec 32) : (bytes32 x).length = 4 := rfl

@[simp] theorem length_nat16 (n : Nat) : (nat16 n).length = 2 := rfl

@[simp] theorem length_nat32 (n : Nat) : (nat32 n).length = 4 := rfl

theorem State.length_testerStatus (t : Tester) : (s.testerStatus t).length = 14 := by
  unfold State.testerStatus
  cases s.ticket t <;> simp

theorem length_incidentBytes (i : Option Incident) : (incidentBytes i).length = 14 := by
  cases i with
  | none => rfl
  | some i =>
    have codes : i.cause.codes.length = 2 := by cases i.cause <;> rfl
    simp [incidentBytes, codes]

theorem length_sponsorBytes (now : Time) (q : Option Sponsor) : (sponsorBytes now q).length = 6 := by
  cases q <;> simp [sponsorBytes]

theorem Record.length_viewBytes (now : Time) (r : Record) : (r.viewBytes now).length = 15 := by
  simp [Record.viewBytes, length_sponsorBytes, bytesOfDomains]

theorem State.length_rosterBytes (d : Domain) : (s.rosterBytes d).length = 11 := by
  simp [State.rosterBytes]

theorem length_trailBytes (absent : Time) (e : Option TrailEntry) : (trailBytes absent e).length = 10 := by
  cases e <;> simp [trailBytes]

theorem State.length_statusAnswer : s.statusAnswer.length = 206 := by
  simp only [State.statusAnswer, List.length_append, length_flatMap_of_const s.length_testerStatus]
  rfl

theorem State.length_captureAnswer : s.captureAnswer.length = 56 := by
  unfold State.captureAnswer
  cases s.trail.capture <;> simp

end

/-- Settles O51: the passage by the judgement and the room, the checks in their order, the effects, and the
lengths of the answers. -/
theorem queries : Obligations.Queries := by
  unfold Obligations.Queries
  refine ⟨fun s t p rest c x answer effect hh hc => ⟨fun r refused selector => ?_, fun passed selector =>
      ⟨fun replies blocks => ?_, fun full => ?_⟩⟩, fun s t p => State.queryRefusal_eq_none,
    State.queryRefusal_eq, fun s t => ⟨rfl, rfl, fun recording => if_pos recording, fun frozen => ?_⟩,
    fun s i n => ⟨s.length_statusAnswer, ?_, ?_, ?_, ?_, rfl, ?_, s.length_captureAnswer⟩⟩
  · rw [exec_query hh hc selector, State.passQuery_of_refused refused]
    rfl
  · rw [exec_query hh hc (.inl selector), State.passQuery_of_passed passed,
      if_pos (State.canStage_eq_true.mpr ⟨replies, blocks⟩)]
    rfl
  · rw [exec_query hh hc (.inl selector), State.passQuery_of_passed passed,
      if_neg (ne_true_of_eq_false (State.canStage_eq_false.mpr full))]
    rfl
  · rw [State.thawTrail, if_neg frozen]
    exact ⟨rfl, rfl, rfl⟩
  · simp [State.incidentsAnswer, length_incidentBytes]
  · simp [State.viewAnswer, length_flatMap_of_const (Record.length_viewBytes s.guardTime), Nat.add_comm]
  · simp [State.rosterAnswer, length_flatMap_of_const s.length_rosterBytes]
    omega
  · simp [State.trailAnswer, length_flatMap_of_const fun k => length_trailBytes _ _]
    omega
  · simp [State.countersAnswer, length_flatMap_of_const length_bytes16]

end Sys2Proof.Machine

/-!
PROOF. Timer expiries: SERVICE_LIMIT (R155) and STOP_LIMIT (R165), the window (R106), the consent hold
(R112) and the lease (R119), and the moment of an expiry (R1).
-/

namespace Sys2Proof.Machine

section
variable {s : State} {tm : Timer} {id : ClaimId} {r : Record} {q : Sponsor}

/-! ## The moment of an expiry (R1) -/

theorem State.reachDue_of_ahead (h : tm.elapsed s.guardTime < tm.length) :
    s.reachDue tm = s.setGuardTime tm.due := if_pos h

theorem State.reachDue_of_reached (h : tm.length ≤ tm.elapsed s.guardTime) : s.reachDue tm = s :=
  if_neg (Nat.not_lt.mpr h)

theorem State.reachDue_record? (s : State) (tm : Timer) (id : ClaimId) :
    (s.reachDue tm).record? id = s.record? id := by simp [State.record?]

theorem State.reachDue_standing (s : State) (tm : Timer) (id : ClaimId) :
    (s.reachDue tm).standing id = s.standing id := by
  simp only [State.standing, State.reachDue_record?]

/-! ## SERVICE_LIMIT (R155) and STOP_LIMIT (R165) -/

/-- The request in service told of a limit that has run out, unless it is orphaned (R155). -/
def State.lateTold (s : State) (v : Service) : State :=
  if v.orphaned then s
  else s.refuseRequest .reqFirst v.tester v.tag Reason.ecuTimeout v.claim (some v.cls) v.data.length v.data

theorem State.serviceLate_of_served {v : Service} (h : s.delivery.service = some v) :
    s.serviceLate =
      if v.cls.effecting then
        ((s.updateService fun y => { y with limit := none }).lateTold v).askStop .serviceTimeout
      else ((s.updateService fun y => { y with limit := none }).lateTold v).leaveSlot v := by
  rw [State.serviceLate, h]
  rfl

theorem State.stopFailed_of_outstanding {o : StopOrder} (h : s.fence.stop = some o) :
    s.stopFailed = (s.updateIncident fun i => { i with outcome := some .timedOut }).takeFenceCause .stopFailed
      ⟨.fence .stopFailed, some o.claim, some o.tester, some o.tag, some o.cls, s.guardTime, .opened,
        none⟩ := by
  rw [State.stopFailed, h]
  simp

/-! ## The window (R106), the consent hold (R112) and the lease (R119) -/

theorem State.sponsor?_of_here (h : s.standing id = .here r q) : s.sponsor? id = some q :=
  State.sponsor?_eq_some.mpr ⟨r, State.standing_here.mp h⟩

theorem State.windowExpired_of_here (h : s.standing id = .here r q) :
    s.windowExpired id =
      if undecided r q then
        (s.updateSponsor id fun y => { y with window := none }).decideClaim id .lapsed Reason.ok
      else s.updateSponsor id fun y => { y with window := none } := by
  rw [State.windowExpired, h]

/-- A claim whose ENDING is set has it still after its lease timer is cleared. -/
theorem State.leaseExpired_of_ending (h : s.standing id = .here r q) (he : q.ending = true) :
    s.leaseExpired id = s.updateSponsor id fun y => { y with leaseTimer := none } := by
  obtain ⟨record, sponsor⟩ := State.standing_here.mp h
  have changed : (s.updateSponsor id fun y => { y with leaseTimer := none }).record? id =
      some (r.onSponsor fun y => { y with leaseTimer := none }) :=
    (State.updateRecord_record? s id (fun r => r.onSponsor fun y => { y with leaseTimer := none })
      fun _ => rfl).trans (by rw [record]; rfl)
  have here : (s.updateSponsor id fun y => { y with leaseTimer := none }).standing id =
      .here (r.onSponsor fun y => { y with leaseTimer := none }) { q with leaseTimer := none } :=
    State.standing_here.mpr ⟨changed, by simp [Record.onSponsor, sponsor]⟩
  exact State.decideEnd_of_ending here he Reason.expired

/-- Is CANCEL offered as a record's hold timer expires (R112)? -/
def Record.holdCancels (r : Record) : Bool :=
  (r.state == .pending || r.state == .resuming) && r.consented && !r.cancelSent

theorem Record.holdCancels_eq_true :
    r.holdCancels = true ↔
      (r.state = .pending ∨ r.state = .resuming) ∧ r.consented = true ∧ r.cancelSent = false := by
  simp [Record.holdCancels, and_assoc]

/-- The record's hold timer is stopped (R112). -/
def State.holdStopped (s : State) (id : ClaimId) : State :=
  s.updateRecord id fun r => { r with holdTimer := none }

theorem State.holdExpired_of_record (h : s.record? id = some r) :
    s.holdExpired id =
      if r.holdCancels then
        if (s.holdStopped id).takesProtocol then
          ((s.holdStopped id).offerProtocol .cancel
            (claimReasonPayload id Reason.holdExpired)).updateRecord id fun r =>
              { r with cancelSent := true }
        else (s.holdStopped id).offerProtocol .cancel (claimReasonPayload id Reason.holdExpired)
      else s.holdStopped id := by
  rw [State.holdExpired, h]
  rfl

/-! ## A timer that does not run, or does not end soonest (log entries 1 and 3) -/

theorem exec_expiry_of_idle {c : Instr} {timer : Option Timer} {act : State → State}
    (hc : exec c s = finish (s.expire timer act))
    (runs : s.phase = .running → ∀ tm, timer = some tm → (c, tm) ∈ s.runningTimers)
    (h : ∀ tm, (c, tm) ∈ s.runningTimers → s.soonest tm = false) : exec c s = .next s.drive := by
  rw [hc]
  rcases s.expire_cases timer act with same | ⟨tm, running, some, soonest, -⟩
  · rw [same]
    rfl
  · exact absurd soonest (by simp [h tm (runs running tm some)])

section
variable (running : s.phase = .running)
include running

theorem State.mem_runningTimers_of_tester {c : Instr} {t : Tester} (h : (c, tm) ∈ s.testerTimers t) :
    (c, tm) ∈ s.runningTimers :=
  (State.mem_runningTimers running).mpr (.inl ⟨t, h⟩)

theorem State.mem_runningTimers_of_service {c : Instr} (h : (c, tm) ∈ s.serviceTimers) :
    (c, tm) ∈ s.runningTimers :=
  (State.mem_runningTimers running).mpr (.inr (.inl h))

theorem State.mem_runningTimers_of_record {c : Instr} (hr : s.record? id = some r)
    (h : (c, tm) ∈ r.timers) : (c, tm) ∈ s.runningTimers :=
  (State.mem_runningTimers running).mpr (.inr (.inr ⟨r, State.record?_mem hr, h⟩))

theorem State.queueWait_runs {t : Tester} {tag : Byte}
    (h : (s.queued? t tag).map (fun e => e.wait) = some tm) :
    (.queueWaitExpiry t tag, tm) ∈ s.runningTimers := by
  obtain ⟨e, found, rfl⟩ := Option.map_eq_some_iff.mp h
  obtain ⟨rfl, rfl⟩ : e.tester = t ∧ e.tag = tag := by
    simpa [QueueEntry.isFor] using List.find?_some found
  exact State.mem_runningTimers_of_service running (State.mem_serviceTimers.mpr
    (.inl ⟨e, List.mem_of_find?_eq_some found, rfl, rfl⟩))

theorem State.window_runs (h : ((s.sponsor? id).bind fun p => p.window) = some tm) :
    (.windowTimerExpiry id, tm) ∈ s.runningTimers := by
  obtain ⟨q, hq, window⟩ := Option.bind_eq_some_iff.mp h
  obtain ⟨r, found, sponsor⟩ := State.sponsor?_eq_some.mp hq
  obtain rfl := State.record?_id found
  exact State.mem_runningTimers_of_record running found
    (Record.mem_timers.mpr (.inr ⟨q, sponsor, .inl ⟨window, rfl⟩⟩))

theorem State.lease_runs (h : ((s.sponsor? id).bind fun p => p.leaseTimer) = some tm) :
    (.leaseTimerExpiry id, tm) ∈ s.runningTimers := by
  obtain ⟨q, hq, lease⟩ := Option.bind_eq_some_iff.mp h
  obtain ⟨r, found, sponsor⟩ := State.sponsor?_eq_some.mp hq
  obtain rfl := State.record?_id found
  exact State.mem_runningTimers_of_record running found
    (Record.mem_timers.mpr (.inr ⟨q, sponsor, .inr ⟨lease, rfl⟩⟩))

theorem State.hold_runs (h : ((s.record? id).bind fun r => r.holdTimer) = some tm) :
    (.holdTimerExpiry id, tm) ∈ s.runningTimers := by
  obtain ⟨r, found, hold⟩ := Option.bind_eq_some_iff.mp h
  obtain rfl := State.record?_id found
  exact State.mem_runningTimers_of_record running found (Record.mem_timers.mpr (.inl ⟨hold, rfl⟩))

end

/-- The loader's wait ends soonest where it runs, so its expiry is idle only where it does not. -/
theorem State.retryLoader_of_idle
    (h : ∀ tm, (.loaderRetryWaitExpiry, tm) ∈ s.runningTimers → s.soonest tm = false) :
    s.retryLoader = s := by
  unfold State.retryLoader
  split
  next n t starting waiting =>
    have runs := (State.runningTimers_starting starting (.loaderRetryWaitExpiry, t)).mpr ⟨rfl, n, waiting⟩
    exact absurd (State.soonest_loader starting waiting) (by simp [h t runs])
  · rfl

/-- The expiry of a timer that does not run, or does not end soonest, changes nothing. -/
theorem exec_timerExpiry_of_idle {c : Instr} (hc : timerExpiry c = true)
    (h : ∀ tm, (c, tm) ∈ s.runningTimers → s.soonest tm = false) : exec c s = .next s.drive := by
  unfold timerExpiry at hc
  split at hc
  · exact congrArg finish (State.retryLoader_of_idle h)
  · refine exec_expiry_of_idle rfl (fun running tm timer => ?_) h
    obtain ⟨k, ticket, rfl⟩ := Option.map_eq_some_iff.mp timer
    exact State.mem_runningTimers_of_tester running
      (State.mem_testerTimers.mpr (.inl ⟨k, ticket, .inl ⟨rfl, rfl⟩⟩))
  · refine exec_expiry_of_idle rfl (fun running tm timer => ?_) h
    obtain ⟨k, ticket, rfl⟩ := Option.map_eq_some_iff.mp timer
    exact State.mem_runningTimers_of_tester running
      (State.mem_testerTimers.mpr (.inl ⟨k, ticket, .inr ⟨rfl, rfl⟩⟩))
  · exact exec_expiry_of_idle rfl (fun running tm timer =>
      State.mem_runningTimers_of_tester running (State.mem_testerTimers.mpr (.inr ⟨rfl, timer⟩))) h
  · exact exec_expiry_of_idle rfl (fun running tm => State.queueWait_runs running) h
  · refine exec_expiry_of_idle rfl (fun running tm timer => ?_) h
    obtain ⟨v, served, limit⟩ := Option.bind_eq_some_iff.mp timer
    exact State.mem_runningTimers_of_service running
      (State.mem_serviceTimers.mpr (.inr (.inl ⟨v, served, limit, rfl⟩)))
  · refine exec_expiry_of_idle rfl (fun running tm timer => ?_) h
    obtain ⟨o, outstanding, rfl⟩ := Option.map_eq_some_iff.mp timer
    exact State.mem_runningTimers_of_service running
      (State.mem_serviceTimers.mpr (.inr (.inr ⟨o, outstanding, rfl, rfl⟩)))
  · exact exec_expiry_of_idle rfl (fun running tm => State.window_runs running) h
  · exact exec_expiry_of_idle rfl (fun running tm => State.hold_runs running) h
  · exact exec_expiry_of_idle rfl (fun running tm => State.lease_runs running) h
  · cases hc

end

/-- Settles O52: each expiry of a running timer that ends soonest, the moment it moves guard time to, and
the expiry of another. -/
theorem timerExpiries : Obligations.TimerExpiries := by
  unfold Obligations.TimerExpiries
  refine ⟨fun s v tm running served limit soonest => ?_, fun s o running outstanding soonest => ?_,
    fun s id r q tm running here soonest => ?_, fun s id r tm running found hold soonest => ?_, fun s tm =>
    ⟨State.reachDue_of_ahead, State.reachDue_of_reached, State.soonest_iff s tm⟩,
    fun s c hc h => exec_timerExpiry_of_idle hc h⟩
  · have served' : (s.reachDue tm).delivery.service = some v := by simpa using served
    have late (X : State) (h : (s.reachDue tm).serviceLate = X) :
        exec .serviceLimitExpiry s = .next X.drive :=
      congrArg finish ((State.expire_of_running running (by rw [served]; exact limit) soonest).trans h)
    refine ⟨fun effecting => late _ ((State.serviceLate_of_served served').trans (if_pos effecting)),
      fun read => late _ ((State.serviceLate_of_served served').trans ((if_neg (by simp [read])).trans ?_))⟩
    rw [State.leaveSlot_eq, if_neg (by simp [read])]
    rfl
  · have outstanding' : (s.reachDue o.limit).fence.stop = some o := by simpa using outstanding
    exact congrArg finish ((State.expire_of_running running (by rw [outstanding]; rfl) soonest).trans
      (State.stopFailed_of_outstanding outstanding'))
  · have here' := (State.reachDue_standing s tm id).trans here
    have sponsor := State.sponsor?_of_here here
    refine ⟨fun window => ?_, fun lease => ?_⟩
    · have expired (X : State) (h : (s.reachDue tm).windowExpired id = X) :
          exec (.windowTimerExpiry id) s = .next X.drive :=
        congrArg finish ((State.expire_of_running running (by rw [sponsor]; exact window) soonest).trans h)
      have rule := State.windowExpired_of_here here'
      exact ⟨fun undecided => expired _ (rule.trans (if_pos undecided)),
        fun decided => expired _ (rule.trans (if_neg (by simp [decided])))⟩
    · have expired (X : State) (h : (s.reachDue tm).leaseExpired id = X) :
          exec (.leaseTimerExpiry id) s = .next X.drive :=
        congrArg finish ((State.expire_of_running running (by rw [sponsor]; exact lease) soonest).trans h)
      exact ⟨fun _ => expired _ rfl, fun ending => expired _ (State.leaseExpired_of_ending here' ending)⟩
  · have found' := (State.reachDue_record? s tm id).trans found
    have expired (X : State) (h : (s.reachDue tm).holdExpired id = X) :
        exec (.holdTimerExpiry id) s = .next X.drive :=
      congrArg finish ((State.expire_of_running running (by rw [found]; exact hold) soonest).trans h)
    have rule := State.holdExpired_of_record found'
    refine ⟨fun cancels => ⟨fun told => ?_, fun lost => ?_⟩, fun stands => ?_⟩
    · exact expired _ (rule.trans ((if_pos (Record.holdCancels_eq_true.mpr cancels)).trans (if_pos told)))
    · exact expired _ (rule.trans ((if_pos (Record.holdCancels_eq_true.mpr cancels)).trans
        (if_neg (ne_true_of_eq_false lost))))
    · exact expired _ (rule.trans (if_neg (mt Record.holdCancels_eq_true.mp stands)))

end Sys2Proof.Machine

/-!
PROOF. The ECU link: taking a command and framing (R24, R177, R178), CONDITIONS and the breaks it leads to
(R128, R180), and NOTICE (R181, R183).
-/

namespace Sys2Proof.Machine

/-! ## Taking a command (R177, R178) -/

section
variable {s : State} {c : Instr}

/-- The command of a link row is taken under the rule of its kind. -/
theorem exec_of_linkRow (h : linkRow c = true) :
    ∃ act : State → State, ∀ s : State, exec c s = .next (s.takeCommand act).drive := by
  unfold linkRow at h
  split at h
  case h_12 => cases h
  all_goals exact ⟨_, fun s => rfl⟩

theorem exec_unknownCommandCode {m : List Byte} (h : commandOfMessage m = .unknownCommandCode m) (s : State) :
    exec (.unknownCommandCode m) s = .next (s.takeCommand fun s => s.respond .illegal []).drive :=
  congrArg finish (if_pos h)

theorem exec_of_linkCommand
    (h : linkRow c = true ∨ ∃ m, c = .unknownCommandCode m ∧ commandOfMessage m = c) :
    ∃ act : State → State, ∀ s : State, exec c s = .next (s.takeCommand act).drive := by
  rcases h with h | ⟨m, rfl, fault⟩
  · exact exec_of_linkRow h
  · exact ⟨_, exec_unknownCommandCode fault⟩

theorem State.takeCommand_of_early (h : s.phase = .starting ∨ s.phase = .unconfigured)
    (act : State → State) : s.takeCommand act = s.respond .notReady [] := by
  rcases h with h | h <;> rw [State.takeCommand, h]

theorem State.takeCommand_of_held {k : StartKind} (h : s.phase = .held k) (act : State → State) :
    s.takeCommand act = s := by
  rw [State.takeCommand, h]

theorem State.takeCommand_of_running (h : s.phase = .running) (act : State → State) :
    s.takeCommand act = act s := by
  rw [State.takeCommand, h]

theorem State.takeWithLength_of_misfit (h : s.phase = .running) {data : List Byte} {lo hi : Nat}
    (misfit : data.length < lo ∨ hi < data.length) (act : State → State) :
    s.takeWithLength data lo hi act = s.respond .illegal [] :=
  (State.takeCommand_of_running h _).trans (if_neg (by omega))

/-- A command with a framing fault or a data length that does not fit (R24, R178). -/
theorem exec_of_illegal (h : s.phase = .running)
    (hc : (∃ m, c = .unknownCommandCode m ∧ commandOfMessage m = c) ∨
      (∃ d, (c = .take d ∨ c = .notice d ∨ c = .status d) ∧ d ≠ []) ∨
      (∃ d, c = .read d ∧ d.length ≠ 4) ∨
      (∃ d, (c = .postInterim d ∨ c = .postPart d ∨ c = .postFinal d) ∧ 256 ≤ d.length) ∨
      (∃ d, (c = .stopDone d ∨ c = .slotClear d) ∧ d.length ≠ 1) ∨
      (∃ d, c = .conditions d ∧ d.length ≠ 5) ∨
      (∃ d, c = .slotLoad d ∧ (d.length < 5 ∨ 256 < d.length))) :
    exec c s = .next (s.respond .illegal []).drive := by
  have misfit {data : List Byte} {lo hi : Nat} (act : State → State)
      (length : data.length < lo ∨ hi < data.length) :
      finish (s.takeWithLength data lo hi act) = .next (s.respond .illegal []).drive :=
    congrArg finish (State.takeWithLength_of_misfit h length act)
  rcases hc with ⟨m, rfl, fault⟩ | ⟨d, hc, filled⟩ | ⟨d, rfl, length⟩ | ⟨d, hc, long⟩ | ⟨d, hc, length⟩ |
    ⟨d, rfl, length⟩ | ⟨d, rfl, length⟩
  · rw [exec_unknownCommandCode fault, State.takeCommand_of_running h]
  · have positive : 0 < d.length := List.length_pos_of_ne_nil filled
    rcases hc with rfl | rfl | rfl <;> exact misfit _ (.inr positive)
  · exact misfit _ (Nat.lt_or_gt_of_ne length)
  · have longer {b : Byte} : 256 < (b :: d).length := Nat.lt_succ_of_le long
    rcases hc with rfl | rfl | rfl <;> exact misfit _ (.inr longer)
  · rcases hc with rfl | rfl <;> exact misfit _ (Nat.lt_or_gt_of_ne length)
  · exact misfit _ (Nat.lt_or_gt_of_ne length)
  · exact misfit _ length

end

/-! ## Framing (R24) -/

section
variable {code : Byte} {data more : List Byte}

/-- A framed message without its CRC-8. -/
def linkBody (first : Byte) (data : List Byte) : List Byte := first :: nat16 data.length ++ data

theorem linkFrame_eq (first : Byte) (data : List Byte) :
    linkFrame first data = linkBody first data ++ [crc8 (linkBody first data)] := rfl

@[simp] theorem length_linkBody : (linkBody code data).length = 3 + data.length := by
  simp [linkBody]
  omega

@[simp] theorem length_linkFrame : (linkFrame code data).length = 4 + data.length := by
  simp [linkFrame_eq]
  omega

/-- The length field of a framed message is its data's length. -/
theorem linkLength_frame (h : data.length < 65536) (more : List Byte) :
    linkLength (linkFrame code data ++ more) = data.length := by
  have field : word16At (linkFrame code data ++ more) 1 = BitVec.ofNat 16 data.length :=
    append_bytes_of_word16 _
  rw [linkLength, field, BitVec.toNat_ofNat, Nat.mod_eq_of_lt h]

theorem linkMessage_frame (h : data.length < 65536) :
    linkMessage (linkFrame code data ++ more) = some (linkFrame code data) := by
  have whole : (linkFrame code data ++ more).take (4 + data.length) = linkFrame code data :=
    List.take_left' length_linkFrame
  rw [linkMessage, linkLength_frame h, whole]
  refine if_pos ?_
  simp only [List.length_append, length_linkFrame, Bool.and_eq_true, decide_eq_true_eq]
  omega

theorem linkCrcOk_frame (h : data.length < 65536) : linkCrcOk (linkFrame code data) = true := by
  have length : linkLength (linkFrame code data) = data.length := by
    simpa using linkLength_frame (code := code) h []
  have body : (linkFrame code data).take (3 + data.length) = linkBody code data :=
    List.take_left' length_linkBody
  have crc : byteAt (linkFrame code data) (3 + data.length) = crc8 (linkBody code data) := by
    rw [byteAt, linkFrame_eq, ← length_linkBody (code := code), List.getD_append_right _ _ _ _ (le_refl _)]
    simp
  rw [linkCrcOk, length, body, crc, beq_self_eq_true]

/-- A framed message is the command of its code and its data (R24). -/
theorem commandOfMessage_frame (h : data.length < 65536) :
    commandOfMessage (linkFrame code data) =
      (linkCommand code.toNat data).getD (.unknownCommandCode (linkFrame code data)) := by
  have length : linkLength (linkFrame code data) = data.length := by
    simpa using linkLength_frame (code := code) h []
  have payload : ((linkFrame code data).drop 3).take data.length = data := List.take_left' rfl
  rw [commandOfMessage, if_pos (linkCrcOk_frame h), length, payload]
  rfl

theorem linkMessage_of_short {bs : List Byte} (h : bs.length < 3 ∨ bs.length < 4 + (word16At bs 1).toNat) :
    linkMessage bs = none := by
  refine if_neg fun whole => ?_
  rw [Bool.and_eq_true, decide_eq_true_eq, decide_eq_true_eq, linkLength] at whole
  omega

theorem State.lsdo_of_driven {s : State} (h : ∀ k, s.phase ≠ .held k) (n : Nat) :
    s.lsdo n = some (List.replicate n 0xFF#8 ++ (s.link.response.map Response.bytes).getD []) := by
  unfold State.lsdo
  split
  next k held => exact absurd held (h k)
  · rfl

/-- The wait bytes are told from a response by its status byte (R24). -/
theorem find?_response (x : LinkStatus) (d : List Byte) (n : Nat) :
    (List.replicate n 0xFF#8 ++ linkFrame x.code d).find? (fun b => b != 0xFF#8) = some x.code := by
  have status : (x.code != 0xFF#8) = true := by cases x <;> rfl
  have wait : (List.replicate n 0xFF#8).find? (fun b => b != 0xFF#8) = none :=
    List.find?_eq_none.mpr fun b hb => by simp [List.eq_of_mem_replicate hb]
  rw [List.find?_append, wait]
  simp [linkFrame, status]

end

/-- Settles O53: taking a command by the phase and the length, and the framing both ways. -/
theorem linkAnswers : Obligations.LinkAnswers := by
  unfold Obligations.LinkAnswers
  refine ⟨fun c s hc => ?_, fun c s running illegal => exec_of_illegal running illegal, fun s => rfl,
    fun code data more h => ?_, fun bs short => ?_, fun b d => rfl, fun s n => ⟨?_, fun r driven hr => ?_⟩, rfl⟩
  · obtain ⟨act, taken⟩ := exec_of_linkCommand hc
    refine ⟨fun early => ?_, ?_⟩
    · rw [taken, State.takeCommand_of_early early]
      rfl
    · rintro ⟨k, held⟩
      rw [taken, State.takeCommand_of_held held]
  · rw [commandOfTransaction, linkMessage_frame h]
    exact commandOfMessage_frame h
  · rw [commandOfTransaction, linkMessage_of_short short]
  · rintro ⟨k, held⟩
    rw [State.lsdo, held]
  · refine ⟨?_, find?_response ..⟩
    rw [State.lsdo_of_driven driven, hr]
    rfl

/-! ## CONDITIONS (R128, R180) -/

theorem Record.breakable_iff (r : Record) :
    r.breakable = true ↔
      (r.state = .held ∨ ((r.state = .pending ∨ r.state = .resuming) ∧ r.consented = true)) ∧
        r.breakSent = false ∧ ∀ q, r.sponsor = some q → q.ending = false := by
  unfold Record.breakable
  cases r.state <;> cases r.sponsor <;> simp [and_assoc]

theorem State.offerBreak_of_told {s : State} (h : s.takesProtocol = true) (r : Record) :
    s.offerBreak r =
      (s.joinQueue (guardFrame s.config.ownDomain .breakClaim (claimReasonPayload r.id Reason.condition))
        0).updateRecord r.id fun y => { y with breakSent := true } := by
  rw [← State.offerProtocol_of_takes h]
  exact if_pos h

theorem State.offerBreak_of_lost {s : State} (h : s.takesProtocol = false) (r : Record) :
    s.offerBreak r = s.offerProtocol .breakClaim (claimReasonPayload r.id Reason.condition) :=
  if_neg (ne_true_of_eq_false h)

/-- Settles O57: the command on five bytes, which records are judged, and the BREAK offered. -/
theorem conditionsCommand : Obligations.ConditionsCommand := by
  unfold Obligations.ConditionsCommand
  exact ⟨fun s a b c d e running => congrArg finish
      (State.takeWithLength_of_fits (data := [a, b, c, d, e]) running (le_refl 5) (le_refl 5)
        fun s => s.reportConditions [a, b, c, d, e]),
    Record.breakable_iff,
    fun s r => ⟨fun told => State.offerBreak_of_told told r, fun lost => State.offerBreak_of_lost lost r⟩,
    fun b => rfl⟩

/-! ## NOTICE (R181, R183) -/

theorem State.handNotice_of_empty {s : State} (h : s.link.notices = []) :
    s.handNotice = s.respond .empty [] := by
  rw [State.handNotice, h]

theorem State.handNotice_of_waiting {s : State} {n : Notice} {rest : List Notice}
    (h : s.link.notices = n :: rest) :
    s.handNotice = (s.onLink fun l => { l with notices := rest, lost := false }).respond .ok
      (noticeFlags s.link.lost (!rest.isEmpty) :: n.bytes) := by
  rw [State.handNotice, h]

/-- Settles O58: by whether a notice waits, and whether others remain. -/
theorem noticeCommand : Obligations.NoticeCommand := by
  unfold Obligations.NoticeCommand
  intro s running
  have taken (X : State) (h : s.handNotice = X) : exec (.notice []) s = .next X.drive :=
    congrArg finish ((State.takeWithLength_of_fits (data := []) running (le_refl 0) (le_refl 0)
      fun s => s.handNotice).trans h)
  refine ⟨fun empty => taken _ (State.handNotice_of_empty empty), fun n others waiting => ?_⟩
  refine taken _ ((State.handNotice_of_waiting waiting).trans ?_)
  cases others <;> rfl

end Sys2Proof.Machine

/-!
PROOF. TAKE and READ (R146, R148 to R150), and POST (R59, R151 to R154, R163, R179).
-/

namespace Sys2Proof.Machine

/-! ## TAKE (R148, R149) -/

section
variable {s : State} {e : QueueEntry}

theorem exec_take (h : s.phase = .running) : exec (.take []) s = .next s.takeRequest.drive :=
  congrArg finish (State.takeWithLength_of_fits (data := []) h (le_refl 0) (le_refl 0) fun s => s.takeRequest)

theorem State.takeRequest_of_busy (h : s.fence.stop ≠ none ∨ s.delivery.service ≠ none) :
    s.takeRequest = s.respond .blocked [] :=
  if_pos (by simpa [Option.isSome_iff_ne_none] using h)

theorem State.takeRequest_of_free (ho : s.fence.stop = none) (hv : s.delivery.service = none) :
    s.takeRequest = s.arbiter.elim (s.respond .empty []) fun e =>
      (s.handOver e).respond .ok (takeData e) := by
  refine (if_neg (by simp [ho, hv])).trans ?_
  cases s.arbiter <;> rfl

/-- The hand-over in the queue, the slot, the counters and the claim (R149). -/
def State.handedOver (s : State) (e : QueueEntry) : State :=
  let u := (s.onDelivery fun d =>
    { d with queue := d.queue.erase e, service := some (s.newService e) }).count Counter.delivered
  if e.claim = noClaim then u else u.chargeClaim e.claim

theorem State.handOver_of_read (h : e.cls.effecting = false) : s.handOver e = s.handedOver e :=
  if_neg (ne_true_of_eq_false h)

theorem State.handOver_of_effecting (h : e.cls.effecting = true) :
    s.handOver e = (s.handedOver e).beginOperation e :=
  if_pos h

theorem Standing.ready_iff {x : Standing} :
    x.ready = true ↔ ∃ r q, x = .here r q ∧ r.state = .held ∧ q.ending = false ∧
      (r.paced = true → q.credit = true) := by
  cases x with
  | here r q => simp [Standing.ready, and_assoc, imp_iff_not_or]
  | _ => simp [Standing.ready]

theorem State.effectingNamed.queued (h : s.effectingNamed = true) (he : e ∈ s.delivery.queue)
    (effecting : e.cls.effecting = true) : e.claim ≠ noClaim := by
  unfold State.effectingNamed at h
  rw [Bool.and_eq_true, Bool.and_eq_true, List.all_eq_true] at h
  obtain ⟨⟨-, queued⟩, -⟩ := h
  have named := List.all_eq_true.mp queued e he
  simpa [effecting] using named

/-- An effecting request is handed over only under a HELD claim, with the domain OPEN (R146). -/
theorem State.arbiter_effecting (h : s.arbiter = some e) (effecting : e.cls.effecting = true)
    (named : s.effectingNamed = true) :
    s.fence.fenced = false ∧ ∃ r q, s.standing e.claim = .here r q ∧ r.state = .held ∧
      q.ending = false ∧ (r.paced = true → q.credit = true) := by
  obtain ⟨queued, eligible⟩ := State.arbiter_eq_some h
  have claimed := State.effectingNamed.queued named queued effecting
  simp only [State.eligible, Bool.and_eq_true, Bool.or_eq_true, beq_iff_eq, Bool.not_eq_true',
    effecting, reduceCtorEq, false_or] at eligible
  obtain ⟨⟨⟨-, ready⟩, -⟩, unfenced⟩ := eligible
  exact ⟨unfenced, Standing.ready_iff.mp (ready.resolve_left claimed)⟩

/-! ## READ (R150) -/

theorem exec_read {d : List Byte} (h : s.phase = .running) (length : d.length = 4) :
    exec (.read d) s = .next (s.readRequest d).drive :=
  congrArg finish (State.takeWithLength_of_fits h (le_of_eq length.symm) (le_of_eq length)
    fun s => s.readRequest d)

theorem State.readRequest_of_count {d : List Byte} (lo : 1 ≤ (word16At d 2).toNat)
    (hi : (word16At d 2).toNat ≤ 256) :
    s.readRequest d = s.delivery.service.elim (s.respond .empty []) fun v =>
      s.respond .ok ((v.data.drop (word16At d 0).toNat).take (word16At d 2).toNat) := by
  refine (if_pos ⟨lo, hi⟩).trans ?_
  cases s.delivery.service <;> rfl

end

/-- Settles O54: TAKE by the stop order, the slot and the arbiter; READ by the count, then the slot. -/
theorem takeAndRead : Obligations.TakeAndRead := by
  unfold Obligations.TakeAndRead
  refine ⟨fun s running => ⟨fun busy => ?_, fun ho hv none => ?_, fun e ho hv chosen => ?_⟩,
    fun s d running length => ⟨fun outside => ?_, fun lo hi => ⟨fun empty => ?_, fun v served => ?_⟩⟩⟩
  · rw [exec_take running, State.takeRequest_of_busy busy]
  · rw [exec_take running, State.takeRequest_of_free ho hv, none]
    rfl
  · have taken : s.takeRequest = (s.handOver e).respond .ok (takeData e) := by
      rw [State.takeRequest_of_free ho hv, chosen]
      rfl
    rw [exec_take running, taken]
    refine ⟨fun read => ?_, fun effecting => ?_, State.arbiter_effecting chosen⟩
    · rw [State.handOver_of_read read]
      rfl
    · rw [State.handOver_of_effecting effecting]
      rfl
  · rw [exec_read running length, State.readRequest, if_neg (by omega)]
  · rw [exec_read running length, State.readRequest_of_count lo hi, empty]
    rfl
  · rw [exec_read running length, State.readRequest_of_count lo hi, served]
    rfl

/-! ## POST (R151 to R154, R163, R179) -/

section
variable {s : State} {b : List Byte} {v : Service}

theorem State.takePost_of_running (h : s.phase = .running) (length : b.length ≤ 255)
    (act : Service → State → State) :
    s.takePost b act = s.delivery.service.elim (s.respond .stale []) fun v => act v s := by
  have fits : (0x00#8 :: b).length ≤ 256 := Nat.succ_le_succ length
  rw [State.takePost, State.takeWithLength_of_fits h (Nat.succ_le_succ (Nat.zero_le _)) fits]
  cases s.delivery.service <;> rfl

theorem exec_post_of_idle (h : s.phase = .running) (length : b.length ≤ 255)
    (hv : s.delivery.service = none) {c : Instr}
    (hc : c = .postInterim b ∨ c = .postPart b ∨ c = .postFinal b) :
    exec c s = .next (s.respond .stale []).drive := by
  have stale (act : Service → State → State) : s.takePost b act = s.respond .stale [] := by
    rw [State.takePost_of_running h length, hv]
    rfl
  rcases hc with rfl | rfl | rfl <;> exact congrArg finish (stale _)

/-- The three POSTs for the request in service. -/
theorem exec_post_of_served (h : s.phase = .running) (length : b.length ≤ 255)
    (hv : s.delivery.service = some v) :
    exec (.postInterim b) s = .next (s.interim v).drive ∧
    exec (.postPart b) s = .next (s.part v b).drive ∧
    exec (.postFinal b) s = .next (s.final v b).drive := by
  have served (act : Service → State → State) : s.takePost b act = act v s := by
    rw [State.takePost_of_running h length, hv]
    rfl
  exact ⟨congrArg finish (served _), congrArg finish (served _), congrArg finish (served _)⟩

/-! ### Under an outstanding stop order (R154, R163) -/

theorem State.posts_of_stop {o : StopOrder} (h : s.fence.stop = some o) (v : Service) (b : List Byte) :
    s.interim v = s.respond .ok [] ∧ s.part v b = s.respond .ok [] ∧
      s.final v b = (s.settleStop o v .answered).respond .ok [] := by
  have stands : s.fence.stop.isSome = true := by simp [h]
  exact ⟨if_pos stands, if_pos stands, by rw [State.final, h]⟩

/-! ### INTERIM (R151) -/

/-- The request in service with one more INTERIM, its limit restarted (R151). -/
def State.interimTaken (s : State) (v : Service) : State :=
  s.onDelivery fun d => { d with
    service := some { v with
      interims := v.interims + 1
      limit := some (s.startTimer s.config.timing.serviceLimit) } }

theorem State.updateService_of_served (hv : s.delivery.service = some v) (f : Service → Service) :
    s.updateService f = s.onDelivery fun d => { d with service := some (f v) } := by
  simp [State.updateService, State.onDelivery, hv]

theorem State.interim_of_few (ho : s.fence.stop = none) (hv : s.delivery.service = some v)
    (few : v.interims < s.config.timing.extensionsMax) :
    s.interim v =
      (if v.orphaned then s.interimTaken v
      else (s.interimTaken v).offerStatus .ansWait v.tester
        (ansWaitPayload v.tag (v.interims + 1))).respond .ok [] := by
  have taken : (s.updateService fun w => { w with
      interims := w.interims + 1
      limit := some (s.startTimer s.config.timing.serviceLimit) }) = s.interimTaken v :=
    State.updateService_of_served hv _
  rw [← taken]
  exact (if_neg (by simp [ho])).trans (if_pos few)

theorem State.interim_of_many (ho : s.fence.stop = none)
    (many : s.config.timing.extensionsMax ≤ v.interims) : s.interim v = s.respond .illegal [] :=
  (if_neg (by simp [ho])).trans (if_neg (Nat.not_lt.mpr many))

/-! ### PART and FINAL (R152, R153, R179) -/

theorem State.stagingRefusal_of_long (long : 4095 < v.staged.length + b.length) :
    s.stagingRefusal v b.length = some .illegal := if_pos long

theorem State.stagingRefusal_of_full (short : v.staged.length + b.length ≤ 4095)
    (full : s.memory.free < stagingNeed v b.length) : s.stagingRefusal v b.length = some .wait :=
  (if_neg (Nat.not_lt.mpr short)).trans (if_pos full)

theorem State.stagingRefusal_of_room (short : v.staged.length + b.length ≤ 4095)
    (room : stagingNeed v b.length ≤ s.memory.free) : s.stagingRefusal v b.length = none :=
  (if_neg (Nat.not_lt.mpr short)).trans (if_neg (Nat.not_lt.mpr room))

theorem State.posts_of_refused (ho : s.fence.stop = none) {x : LinkStatus}
    (h : s.stagingRefusal v b.length = some x) :
    s.part v b = s.respond x [] ∧ s.final v b = s.respond x [] := by
  constructor
  · refine (if_neg (by simp [ho])).trans ?_
    rw [h]
  · rw [State.final, ho]
    simp only [h]

theorem State.part_of_room (ho : s.fence.stop = none) (h : s.stagingRefusal v b.length = none) :
    s.part v b = (s.stageBytes v b).respond .ok [] := by
  refine (if_neg (by simp [ho])).trans ?_
  rw [h]

theorem State.final_of_room (ho : s.fence.stop = none) (h : s.stagingRefusal v b.length = none) :
    s.final v b =
      if v.orphaned then (s.completeOrphan v).respond .ok []
      else if 16 ≤ s.memory.replies.length then s.respond .wait []
      else (s.completeService v b).respond .ok [] := by
  rw [State.final, ho]
  simp only [h]

/-- The answer staged and the slot emptied of a read request (R153). -/
def State.answeredRead (s : State) (v : Service) (b : List Byte) : State :=
  ((((s.takeBlocks (stagingNeed v b.length)).stageAnswer ⟨v.tester, v.tag, .ecu, v.cls, v.staged ++ b, 0⟩
    ).freeBlocks (blocksFor v.data.length)).onDelivery fun d => { d with service := none }).count
      Counter.answered

theorem State.completeService_of_read (h : v.cls.effecting = false) :
    s.completeService v b = s.answeredRead v b := by
  simp [State.completeService, State.emptySlot, State.operationSeen, State.answeredRead, h]

theorem State.completeService_of_effecting (h : v.cls.effecting = true) :
    s.completeService v b =
      (((s.answeredRead v b).onFence fun f => { f with marker := false }).setOperation v.claim .idle
        ).judgeOneShot v := by
  unfold State.completeService State.emptySlot State.operationSeen
  simp only [h, if_true]
  rfl

end

/-- Settles O55: the slot, then the stop order, then the staging checks in the order of R179. -/
theorem posts : Obligations.Posts := by
  unfold Obligations.Posts
  intro s b running length
  refine ⟨fun idle c => exec_post_of_idle running length idle, fun v served => ?_⟩
  obtain ⟨interim, part, final⟩ := exec_post_of_served running length served
  rw [interim, part, final]
  refine ⟨fun o ho => ?_, fun ho => ⟨fun many => ?_, fun few => ⟨fun orphan => ?_, fun told => ?_⟩,
    fun c hc => ?_, fun short room => ?_⟩⟩
  · obtain ⟨interim, part, final⟩ := State.posts_of_stop ho v b
    rw [interim, part, final]
    exact ⟨rfl, rfl, rfl⟩
  · rw [State.interim_of_many ho many]
  · rw [State.interim_of_few ho served few, if_pos orphan]
    rfl
  · rw [State.interim_of_few ho served few, if_neg (ne_true_of_eq_false told)]
    rfl
  · have refused {x : LinkStatus} (h : s.stagingRefusal v b.length = some x) :
        exec c s = .next (s.respond x []).drive := by
      obtain ⟨partRefused, finalRefused⟩ := State.posts_of_refused ho h
      rcases hc with rfl | rfl
      · rw [part, partRefused]
      · rw [final, finalRefused]
    exact ⟨fun long => refused (State.stagingRefusal_of_long long),
      fun short full => refused (State.stagingRefusal_of_full short full)⟩
  · have passed := State.stagingRefusal_of_room short room
    have done := State.final_of_room ho passed
    refine ⟨?_, fun told full => ?_, fun orphan => ?_, fun told replies => ⟨fun read => ?_,
      fun effecting => ?_⟩⟩
    · have staged : s.stageBytes v b = (s.takeBlocks (stagingNeed v b.length)).onDelivery fun d =>
          { d with service := some { v with staged := v.staged ++ b } } :=
        State.updateService_of_served (s := s.takeBlocks (stagingNeed v b.length)) served _
      rw [State.part_of_room ho passed, staged]
      rfl
    · rw [done, if_neg (ne_true_of_eq_false told), if_pos full]
    · rw [done, if_pos orphan]
      rfl
    all_goals
      rw [done, if_neg (ne_true_of_eq_false told), if_neg (Nat.not_le.mpr replies)]
    · rw [State.completeService_of_read read]
      rfl
    · rw [State.completeService_of_effecting effecting]
      rfl

end Sys2Proof.Machine
